-- ==== Sys2Proof/Word.lean ====
section
/-! DEFINITION. The word types of the machine (00_scope.md R8, R10). -/

namespace Sys2Proof

/-- A data byte: 8 bits (R8). -/
abbrev Byte := BitVec 8

/-- A CPU address, the PC, or a 16-bit intermediate value (R8). -/
abbrev Word := BitVec 16

end Sys2Proof
end

