-- ==== Sys2Proof/Machine/Bits.lean ====
section
/-! DEFINITION. Bit fields, byte order and extension (00_scope.md R10, 20_memory.md R80). -/

namespace Sys2Proof

/-- `v[7:0]` of a 16-bit value. -/
def loByte (w : Word) : Byte := w.extractLsb' 0 8

/-- `v[15:8]` of a 16-bit value. -/
def hiByte (w : Word) : Byte := w.extractLsb' 8 8

/-- `{hi, lo}` (R10): hi in bits 15:8. -/
def mkWord (hi lo : Byte) : Word := hi ++ lo

/-- `zext_16(v)` (R10). -/
def zext16 (v : Byte) : Word := v.setWidth 16

/-- `sext_16(d)` (R10) as a 16-bit value: the signed displacement modulo 0x10000. -/
def sext16 (d : Byte) : Word := d.signExtend 16

/-- `v[i]` (R10). -/
def bitOf (v : Byte) (i : Nat) : Bool := v.getLsbD i

/-- Two 16-bit addresses lie on different pages: they differ in bits 15:8 (R154). -/
def pagesDiffer (a b : Word) : Bool := hiByte a != hiByte b

end Sys2Proof
end

