-- ==== Sys2Proof/Config.lean ====
section
/-! DEFINITION. The configuration parameters of 00_scope.md R9, each fixed for a run (R55). -/

namespace Sys2Proof

/-- `MIRRORING` (R9, R93); four-screen is refused before a machine exists (R118). -/
inductive Mirroring where
  | vertical
  | horizontal
deriving DecidableEq, Repr

/-- The two PRG lengths R9 accepts: 16384 and 32768 bytes. -/
inductive PrgSize where
  | kb16
  | kb32
deriving DecidableEq, Repr

/-- The parameters of R9 that are not byte arrays. They are held in the state as a field that no step
changes (log 1). -/
structure Config where
  /-- length of `PRG` -/
  prgSize : PrgSize
  /-- the cartridge supplies `CHR` (read only); otherwise the pattern memory is CHR RAM (R47) -/
  chrRom : Bool
  /-- `MIRRORING` -/
  mirroring : Mirroring
  /-- `CYCLES_PER_SCANLINE`, a positive integer (`Config.wf`) -/
  cyclesPerScanline : Nat
  /-- `OAM_DMA_STALL_CYCLES` -/
  oamDmaStall : Nat
  /-- `PAGE_CROSS_PENALTY` -/
  pageCrossPenalty : Bool
deriving DecidableEq, Repr

/-- The defaults of R9. R9 gives `PRG` and `CHR` no default: 16 KB and no CHR are the model's choice,
the configuration 95_test_vectors.md uses (DESIGN CHOICE, log 2). -/
def Config.default : Config where
  prgSize := .kb16
  chrRom := false
  mirroring := .vertical
  cyclesPerScanline := 113
  oamDmaStall := 513
  pageCrossPenalty := true

end Sys2Proof
end

