-- ==== Sys2Proof/Syntax.lean ====
section
/-! DEFINITION. The instructions: one constructor per row of spec/opcode_table.json (30_encoding.md R121, R124,
R125). The name is the mnemonic followed by the mode: Acc, Imm, Zp, Zpx, Zpy, Abs, Absx, Absy, Ind, Indx, Indy;
nothing for Implied and Relative. The operand is the one R123 assembles: a byte, or the 16-bit address of a
three-byte instruction. -/

namespace Sys2Proof

/-- The instruction set: 56 mnemonics, 13 modes, 151 rows (R2). -/
inductive Instr where
  /-- `LDA #$nn`, opcode 0xA9: R160, Immediate R143 -/
  | ldaImm (v : Byte)
  /-- `LDA $nn`, opcode 0xA5: R160, ZeroPage R144 -/
  | ldaZp (b : Byte)
  /-- `LDA $nn,X`, opcode 0xB5: R160, ZeroPageX R145 -/
  | ldaZpx (b : Byte)
  /-- `LDA $nnnn`, opcode 0xAD: R160, Absolute R147 -/
  | ldaAbs (w : Word)
  /-- `LDA $nnnn,X`, opcode 0xBD: R160, AbsoluteX R148 -/
  | ldaAbsx (w : Word)
  /-- `LDA $nnnn,Y`, opcode 0xB9: R160, AbsoluteY R149 -/
  | ldaAbsy (w : Word)
  /-- `LDA ($nn,X)`, opcode 0xA1: R160, IndirectPreX R151 -/
  | ldaIndx (b : Byte)
  /-- `LDA ($nn),Y`, opcode 0xB1: R160, IndirectPostY R152 -/
  | ldaIndy (b : Byte)
  /-- `LDX #$nn`, opcode 0xA2: R161, Immediate R143 -/
  | ldxImm (v : Byte)
  /-- `LDX $nn`, opcode 0xA6: R161, ZeroPage R144 -/
  | ldxZp (b : Byte)
  /-- `LDX $nn,Y`, opcode 0xB6: R161, ZeroPageY R146 -/
  | ldxZpy (b : Byte)
  /-- `LDX $nnnn`, opcode 0xAE: R161, Absolute R147 -/
  | ldxAbs (w : Word)
  /-- `LDX $nnnn,Y`, opcode 0xBE: R161, AbsoluteY R149 -/
  | ldxAbsy (w : Word)
  /-- `LDY #$nn`, opcode 0xA0: R162, Immediate R143 -/
  | ldyImm (v : Byte)
  /-- `LDY $nn`, opcode 0xA4: R162, ZeroPage R144 -/
  | ldyZp (b : Byte)
  /-- `LDY $nn,X`, opcode 0xB4: R162, ZeroPageX R145 -/
  | ldyZpx (b : Byte)
  /-- `LDY $nnnn`, opcode 0xAC: R162, Absolute R147 -/
  | ldyAbs (w : Word)
  /-- `LDY $nnnn,X`, opcode 0xBC: R162, AbsoluteX R148 -/
  | ldyAbsx (w : Word)
  /-- `STA $nn`, opcode 0x85: R163, ZeroPage R144 -/
  | staZp (b : Byte)
  /-- `STA $nn,X`, opcode 0x95: R163, ZeroPageX R145 -/
  | staZpx (b : Byte)
  /-- `STA $nnnn`, opcode 0x8D: R163, Absolute R147 -/
  | staAbs (w : Word)
  /-- `STA $nnnn,X`, opcode 0x9D: R163, AbsoluteX R148 -/
  | staAbsx (w : Word)
  /-- `STA $nnnn,Y`, opcode 0x99: R163, AbsoluteY R149 -/
  | staAbsy (w : Word)
  /-- `STA ($nn,X)`, opcode 0x81: R163, IndirectPreX R151 -/
  | staIndx (b : Byte)
  /-- `STA ($nn),Y`, opcode 0x91: R163, IndirectPostY R152 -/
  | staIndy (b : Byte)
  /-- `STX $nn`, opcode 0x86: R164, ZeroPage R144 -/
  | stxZp (b : Byte)
  /-- `STX $nn,Y`, opcode 0x96: R164, ZeroPageY R146 -/
  | stxZpy (b : Byte)
  /-- `STX $nnnn`, opcode 0x8E: R164, Absolute R147 -/
  | stxAbs (w : Word)
  /-- `STY $nn`, opcode 0x84: R165, ZeroPage R144 -/
  | styZp (b : Byte)
  /-- `STY $nn,X`, opcode 0x94: R165, ZeroPageX R145 -/
  | styZpx (b : Byte)
  /-- `STY $nnnn`, opcode 0x8C: R165, Absolute R147 -/
  | styAbs (w : Word)
  /-- `TAX`, opcode 0xAA: R166, Implied R141 -/
  | tax
  /-- `TAY`, opcode 0xA8: R167, Implied R141 -/
  | tay
  /-- `TSX`, opcode 0xBA: R168, Implied R141 -/
  | tsx
  /-- `TXA`, opcode 0x8A: R169, Implied R141 -/
  | txa
  /-- `TXS`, opcode 0x9A: R170, Implied R141 -/
  | txs
  /-- `TYA`, opcode 0x98: R171, Implied R141 -/
  | tya
  /-- `PHA`, opcode 0x48: R182, Implied R141 -/
  | pha
  /-- `PHP`, opcode 0x08: R183, Implied R141 -/
  | php
  /-- `PLA`, opcode 0x68: R184, Implied R141 -/
  | pla
  /-- `PLP`, opcode 0x28: R185, Implied R141 -/
  | plp
  /-- `ADC #$nn`, opcode 0x69: R191, Immediate R143 -/
  | adcImm (v : Byte)
  /-- `ADC $nn`, opcode 0x65: R191, ZeroPage R144 -/
  | adcZp (b : Byte)
  /-- `ADC $nn,X`, opcode 0x75: R191, ZeroPageX R145 -/
  | adcZpx (b : Byte)
  /-- `ADC $nnnn`, opcode 0x6D: R191, Absolute R147 -/
  | adcAbs (w : Word)
  /-- `ADC $nnnn,X`, opcode 0x7D: R191, AbsoluteX R148 -/
  | adcAbsx (w : Word)
  /-- `ADC $nnnn,Y`, opcode 0x79: R191, AbsoluteY R149 -/
  | adcAbsy (w : Word)
  /-- `ADC ($nn,X)`, opcode 0x61: R191, IndirectPreX R151 -/
  | adcIndx (b : Byte)
  /-- `ADC ($nn),Y`, opcode 0x71: R191, IndirectPostY R152 -/
  | adcIndy (b : Byte)
  /-- `SBC #$nn`, opcode 0xE9: R192, Immediate R143 -/
  | sbcImm (v : Byte)
  /-- `SBC $nn`, opcode 0xE5: R192, ZeroPage R144 -/
  | sbcZp (b : Byte)
  /-- `SBC $nn,X`, opcode 0xF5: R192, ZeroPageX R145 -/
  | sbcZpx (b : Byte)
  /-- `SBC $nnnn`, opcode 0xED: R192, Absolute R147 -/
  | sbcAbs (w : Word)
  /-- `SBC $nnnn,X`, opcode 0xFD: R192, AbsoluteX R148 -/
  | sbcAbsx (w : Word)
  /-- `SBC $nnnn,Y`, opcode 0xF9: R192, AbsoluteY R149 -/
  | sbcAbsy (w : Word)
  /-- `SBC ($nn,X)`, opcode 0xE1: R192, IndirectPreX R151 -/
  | sbcIndx (b : Byte)
  /-- `SBC ($nn),Y`, opcode 0xF1: R192, IndirectPostY R152 -/
  | sbcIndy (b : Byte)
  /-- `AND #$nn`, opcode 0x29: R193, Immediate R143 -/
  | andImm (v : Byte)
  /-- `AND $nn`, opcode 0x25: R193, ZeroPage R144 -/
  | andZp (b : Byte)
  /-- `AND $nn,X`, opcode 0x35: R193, ZeroPageX R145 -/
  | andZpx (b : Byte)
  /-- `AND $nnnn`, opcode 0x2D: R193, Absolute R147 -/
  | andAbs (w : Word)
  /-- `AND $nnnn,X`, opcode 0x3D: R193, AbsoluteX R148 -/
  | andAbsx (w : Word)
  /-- `AND $nnnn,Y`, opcode 0x39: R193, AbsoluteY R149 -/
  | andAbsy (w : Word)
  /-- `AND ($nn,X)`, opcode 0x21: R193, IndirectPreX R151 -/
  | andIndx (b : Byte)
  /-- `AND ($nn),Y`, opcode 0x31: R193, IndirectPostY R152 -/
  | andIndy (b : Byte)
  /-- `ORA #$nn`, opcode 0x09: R194, Immediate R143 -/
  | oraImm (v : Byte)
  /-- `ORA $nn`, opcode 0x05: R194, ZeroPage R144 -/
  | oraZp (b : Byte)
  /-- `ORA $nn,X`, opcode 0x15: R194, ZeroPageX R145 -/
  | oraZpx (b : Byte)
  /-- `ORA $nnnn`, opcode 0x0D: R194, Absolute R147 -/
  | oraAbs (w : Word)
  /-- `ORA $nnnn,X`, opcode 0x1D: R194, AbsoluteX R148 -/
  | oraAbsx (w : Word)
  /-- `ORA $nnnn,Y`, opcode 0x19: R194, AbsoluteY R149 -/
  | oraAbsy (w : Word)
  /-- `ORA ($nn,X)`, opcode 0x01: R194, IndirectPreX R151 -/
  | oraIndx (b : Byte)
  /-- `ORA ($nn),Y`, opcode 0x11: R194, IndirectPostY R152 -/
  | oraIndy (b : Byte)
  /-- `EOR #$nn`, opcode 0x49: R195, Immediate R143 -/
  | eorImm (v : Byte)
  /-- `EOR $nn`, opcode 0x45: R195, ZeroPage R144 -/
  | eorZp (b : Byte)
  /-- `EOR $nn,X`, opcode 0x55: R195, ZeroPageX R145 -/
  | eorZpx (b : Byte)
  /-- `EOR $nnnn`, opcode 0x4D: R195, Absolute R147 -/
  | eorAbs (w : Word)
  /-- `EOR $nnnn,X`, opcode 0x5D: R195, AbsoluteX R148 -/
  | eorAbsx (w : Word)
  /-- `EOR $nnnn,Y`, opcode 0x59: R195, AbsoluteY R149 -/
  | eorAbsy (w : Word)
  /-- `EOR ($nn,X)`, opcode 0x41: R195, IndirectPreX R151 -/
  | eorIndx (b : Byte)
  /-- `EOR ($nn),Y`, opcode 0x51: R195, IndirectPostY R152 -/
  | eorIndy (b : Byte)
  /-- `BIT $nn`, opcode 0x24: R196, ZeroPage R144 -/
  | bitZp (b : Byte)
  /-- `BIT $nnnn`, opcode 0x2C: R196, Absolute R147 -/
  | bitAbs (w : Word)
  /-- `CMP #$nn`, opcode 0xC9: R198, Immediate R143 -/
  | cmpImm (v : Byte)
  /-- `CMP $nn`, opcode 0xC5: R198, ZeroPage R144 -/
  | cmpZp (b : Byte)
  /-- `CMP $nn,X`, opcode 0xD5: R198, ZeroPageX R145 -/
  | cmpZpx (b : Byte)
  /-- `CMP $nnnn`, opcode 0xCD: R198, Absolute R147 -/
  | cmpAbs (w : Word)
  /-- `CMP $nnnn,X`, opcode 0xDD: R198, AbsoluteX R148 -/
  | cmpAbsx (w : Word)
  /-- `CMP $nnnn,Y`, opcode 0xD9: R198, AbsoluteY R149 -/
  | cmpAbsy (w : Word)
  /-- `CMP ($nn,X)`, opcode 0xC1: R198, IndirectPreX R151 -/
  | cmpIndx (b : Byte)
  /-- `CMP ($nn),Y`, opcode 0xD1: R198, IndirectPostY R152 -/
  | cmpIndy (b : Byte)
  /-- `CPX #$nn`, opcode 0xE0: R199, Immediate R143 -/
  | cpxImm (v : Byte)
  /-- `CPX $nn`, opcode 0xE4: R199, ZeroPage R144 -/
  | cpxZp (b : Byte)
  /-- `CPX $nnnn`, opcode 0xEC: R199, Absolute R147 -/
  | cpxAbs (w : Word)
  /-- `CPY #$nn`, opcode 0xC0: R200, Immediate R143 -/
  | cpyImm (v : Byte)
  /-- `CPY $nn`, opcode 0xC4: R200, ZeroPage R144 -/
  | cpyZp (b : Byte)
  /-- `CPY $nnnn`, opcode 0xCC: R200, Absolute R147 -/
  | cpyAbs (w : Word)
  /-- `INC $nn`, opcode 0xE6: R201, ZeroPage R144 -/
  | incZp (b : Byte)
  /-- `INC $nn,X`, opcode 0xF6: R201, ZeroPageX R145 -/
  | incZpx (b : Byte)
  /-- `INC $nnnn`, opcode 0xEE: R201, Absolute R147 -/
  | incAbs (w : Word)
  /-- `INC $nnnn,X`, opcode 0xFE: R201, AbsoluteX R148 -/
  | incAbsx (w : Word)
  /-- `DEC $nn`, opcode 0xC6: R202, ZeroPage R144 -/
  | decZp (b : Byte)
  /-- `DEC $nn,X`, opcode 0xD6: R202, ZeroPageX R145 -/
  | decZpx (b : Byte)
  /-- `DEC $nnnn`, opcode 0xCE: R202, Absolute R147 -/
  | decAbs (w : Word)
  /-- `DEC $nnnn,X`, opcode 0xDE: R202, AbsoluteX R148 -/
  | decAbsx (w : Word)
  /-- `INX`, opcode 0xE8: R203, Implied R141 -/
  | inx
  /-- `INY`, opcode 0xC8: R204, Implied R141 -/
  | iny
  /-- `DEX`, opcode 0xCA: R205, Implied R141 -/
  | dex
  /-- `DEY`, opcode 0x88: R206, Implied R141 -/
  | dey
  /-- `ASL A`, opcode 0x0A: R220, Accumulator R142 -/
  | aslAcc
  /-- `ASL $nn`, opcode 0x06: R220, ZeroPage R144 -/
  | aslZp (b : Byte)
  /-- `ASL $nn,X`, opcode 0x16: R220, ZeroPageX R145 -/
  | aslZpx (b : Byte)
  /-- `ASL $nnnn`, opcode 0x0E: R220, Absolute R147 -/
  | aslAbs (w : Word)
  /-- `ASL $nnnn,X`, opcode 0x1E: R220, AbsoluteX R148 -/
  | aslAbsx (w : Word)
  /-- `LSR A`, opcode 0x4A: R221, Accumulator R142 -/
  | lsrAcc
  /-- `LSR $nn`, opcode 0x46: R221, ZeroPage R144 -/
  | lsrZp (b : Byte)
  /-- `LSR $nn,X`, opcode 0x56: R221, ZeroPageX R145 -/
  | lsrZpx (b : Byte)
  /-- `LSR $nnnn`, opcode 0x4E: R221, Absolute R147 -/
  | lsrAbs (w : Word)
  /-- `LSR $nnnn,X`, opcode 0x5E: R221, AbsoluteX R148 -/
  | lsrAbsx (w : Word)
  /-- `ROL A`, opcode 0x2A: R222, Accumulator R142 -/
  | rolAcc
  /-- `ROL $nn`, opcode 0x26: R222, ZeroPage R144 -/
  | rolZp (b : Byte)
  /-- `ROL $nn,X`, opcode 0x36: R222, ZeroPageX R145 -/
  | rolZpx (b : Byte)
  /-- `ROL $nnnn`, opcode 0x2E: R222, Absolute R147 -/
  | rolAbs (w : Word)
  /-- `ROL $nnnn,X`, opcode 0x3E: R222, AbsoluteX R148 -/
  | rolAbsx (w : Word)
  /-- `ROR A`, opcode 0x6A: R223, Accumulator R142 -/
  | rorAcc
  /-- `ROR $nn`, opcode 0x66: R223, ZeroPage R144 -/
  | rorZp (b : Byte)
  /-- `ROR $nn,X`, opcode 0x76: R223, ZeroPageX R145 -/
  | rorZpx (b : Byte)
  /-- `ROR $nnnn`, opcode 0x6E: R223, Absolute R147 -/
  | rorAbs (w : Word)
  /-- `ROR $nnnn,X`, opcode 0x7E: R223, AbsoluteX R148 -/
  | rorAbsx (w : Word)
  /-- `JMP $nnnn`, opcode 0x4C: R230, Absolute R147 -/
  | jmpAbs (w : Word)
  /-- `JMP ($nnnn)`, opcode 0x6C: R230, Indirect R150 -/
  | jmpInd (w : Word)
  /-- `JSR $nnnn`, opcode 0x20: R231, Absolute R147 -/
  | jsrAbs (w : Word)
  /-- `RTS`, opcode 0x60: R232, Implied R141 -/
  | rts
  /-- `RTI`, opcode 0x40: R233, Implied R141 -/
  | rti
  /-- `BRK`, opcode 0x00: R238, Implied R141 -/
  | brk
  /-- `BCC label`, opcode 0x90: R241, Relative R153 -/
  | bcc (d : Byte)
  /-- `BCS label`, opcode 0xB0: R242, Relative R153 -/
  | bcs (d : Byte)
  /-- `BEQ label`, opcode 0xF0: R243, Relative R153 -/
  | beq (d : Byte)
  /-- `BMI label`, opcode 0x30: R244, Relative R153 -/
  | bmi (d : Byte)
  /-- `BNE label`, opcode 0xD0: R245, Relative R153 -/
  | bne (d : Byte)
  /-- `BPL label`, opcode 0x10: R246, Relative R153 -/
  | bpl (d : Byte)
  /-- `BVC label`, opcode 0x50: R247, Relative R153 -/
  | bvc (d : Byte)
  /-- `BVS label`, opcode 0x70: R248, Relative R153 -/
  | bvs (d : Byte)
  /-- `CLC`, opcode 0x18: R250, Implied R141 -/
  | clc
  /-- `CLD`, opcode 0xD8: R251, Implied R141 -/
  | cld
  /-- `CLI`, opcode 0x58: R252, Implied R141 -/
  | cli
  /-- `CLV`, opcode 0xB8: R253, Implied R141 -/
  | clv
  /-- `SEC`, opcode 0x38: R255, Implied R141 -/
  | sec
  /-- `SED`, opcode 0xF8: R256, Implied R141 -/
  | sed
  /-- `SEI`, opcode 0x78: R254, Implied R141 -/
  | sei
  /-- `NOP`, opcode 0xEA: R257, Implied R141 -/
  | nop
deriving DecidableEq, Repr

end Sys2Proof
end

