-- ==== Sys2Proof/WellFormed.lean ====
section
/-! DEFINITION. Which instructions and which configurations are well formed. -/

namespace Sys2Proof

/-- Within a defined instruction every operand byte value is legal (30_encoding.md R127), and the types of the
operands are the encodings' widths, so there is no ill-formed instruction. -/
def Instr.wf (_ : Instr) : Bool := true

/-- `CYCLES_PER_SCANLINE` is a positive integer (00_scope.md R9); the other parameters have no illegal value. -/
def Config.wf (c : Config) : Bool := decide (0 < c.cyclesPerScanline)

end Sys2Proof
end

