-- ==== Sys2Proof/Decode.lean ====
section
/-! DEFINITION. The decoder, total on every byte string and rejecting by name (30_encoding.md R120 to R127), and after
it the encoder, written from the same opcode map. -/

namespace Sys2Proof

/-- Why a byte string is no instruction. -/
inductive DecodeError where
  /-- the opcode is one of the 105 undefined values of R126 -/
  | undefinedOpcode (op : Byte)
  /-- the string ends before the instruction does -/
  | truncated
deriving DecidableEq, Repr

/-- An entry of the instruction table (R121) with its format (R122): what the operand bytes make of it. -/
inductive Entry where
  /-- F1: the opcode alone -/
  | f1 (i : Instr)
  /-- F2: the opcode and `b1` -/
  | f2 (make : Byte → Instr)
  /-- F3: the opcode and the address `{b2, b1}` -/
  | f3 (make : Word → Instr)

/-- The instruction table of R121, in the order of the opcode map R124; `none` is undefined (R126). -/
def opcodeEntry (op : Byte) : Option Entry :=
  match op with
  | 0x00#8 => some (.f1 .brk)
  | 0x01#8 => some (.f2 .oraIndx)
  | 0x05#8 => some (.f2 .oraZp)
  | 0x06#8 => some (.f2 .aslZp)
  | 0x08#8 => some (.f1 .php)
  | 0x09#8 => some (.f2 .oraImm)
  | 0x0A#8 => some (.f1 .aslAcc)
  | 0x0D#8 => some (.f3 .oraAbs)
  | 0x0E#8 => some (.f3 .aslAbs)
  | 0x10#8 => some (.f2 .bpl)
  | 0x11#8 => some (.f2 .oraIndy)
  | 0x15#8 => some (.f2 .oraZpx)
  | 0x16#8 => some (.f2 .aslZpx)
  | 0x18#8 => some (.f1 .clc)
  | 0x19#8 => some (.f3 .oraAbsy)
  | 0x1D#8 => some (.f3 .oraAbsx)
  | 0x1E#8 => some (.f3 .aslAbsx)
  | 0x20#8 => some (.f3 .jsrAbs)
  | 0x21#8 => some (.f2 .andIndx)
  | 0x24#8 => some (.f2 .bitZp)
  | 0x25#8 => some (.f2 .andZp)
  | 0x26#8 => some (.f2 .rolZp)
  | 0x28#8 => some (.f1 .plp)
  | 0x29#8 => some (.f2 .andImm)
  | 0x2A#8 => some (.f1 .rolAcc)
  | 0x2C#8 => some (.f3 .bitAbs)
  | 0x2D#8 => some (.f3 .andAbs)
  | 0x2E#8 => some (.f3 .rolAbs)
  | 0x30#8 => some (.f2 .bmi)
  | 0x31#8 => some (.f2 .andIndy)
  | 0x35#8 => some (.f2 .andZpx)
  | 0x36#8 => some (.f2 .rolZpx)
  | 0x38#8 => some (.f1 .sec)
  | 0x39#8 => some (.f3 .andAbsy)
  | 0x3D#8 => some (.f3 .andAbsx)
  | 0x3E#8 => some (.f3 .rolAbsx)
  | 0x40#8 => some (.f1 .rti)
  | 0x41#8 => some (.f2 .eorIndx)
  | 0x45#8 => some (.f2 .eorZp)
  | 0x46#8 => some (.f2 .lsrZp)
  | 0x48#8 => some (.f1 .pha)
  | 0x49#8 => some (.f2 .eorImm)
  | 0x4A#8 => some (.f1 .lsrAcc)
  | 0x4C#8 => some (.f3 .jmpAbs)
  | 0x4D#8 => some (.f3 .eorAbs)
  | 0x4E#8 => some (.f3 .lsrAbs)
  | 0x50#8 => some (.f2 .bvc)
  | 0x51#8 => some (.f2 .eorIndy)
  | 0x55#8 => some (.f2 .eorZpx)
  | 0x56#8 => some (.f2 .lsrZpx)
  | 0x58#8 => some (.f1 .cli)
  | 0x59#8 => some (.f3 .eorAbsy)
  | 0x5D#8 => some (.f3 .eorAbsx)
  | 0x5E#8 => some (.f3 .lsrAbsx)
  | 0x60#8 => some (.f1 .rts)
  | 0x61#8 => some (.f2 .adcIndx)
  | 0x65#8 => some (.f2 .adcZp)
  | 0x66#8 => some (.f2 .rorZp)
  | 0x68#8 => some (.f1 .pla)
  | 0x69#8 => some (.f2 .adcImm)
  | 0x6A#8 => some (.f1 .rorAcc)
  | 0x6C#8 => some (.f3 .jmpInd)
  | 0x6D#8 => some (.f3 .adcAbs)
  | 0x6E#8 => some (.f3 .rorAbs)
  | 0x70#8 => some (.f2 .bvs)
  | 0x71#8 => some (.f2 .adcIndy)
  | 0x75#8 => some (.f2 .adcZpx)
  | 0x76#8 => some (.f2 .rorZpx)
  | 0x78#8 => some (.f1 .sei)
  | 0x79#8 => some (.f3 .adcAbsy)
  | 0x7D#8 => some (.f3 .adcAbsx)
  | 0x7E#8 => some (.f3 .rorAbsx)
  | 0x81#8 => some (.f2 .staIndx)
  | 0x84#8 => some (.f2 .styZp)
  | 0x85#8 => some (.f2 .staZp)
  | 0x86#8 => some (.f2 .stxZp)
  | 0x88#8 => some (.f1 .dey)
  | 0x8A#8 => some (.f1 .txa)
  | 0x8C#8 => some (.f3 .styAbs)
  | 0x8D#8 => some (.f3 .staAbs)
  | 0x8E#8 => some (.f3 .stxAbs)
  | 0x90#8 => some (.f2 .bcc)
  | 0x91#8 => some (.f2 .staIndy)
  | 0x94#8 => some (.f2 .styZpx)
  | 0x95#8 => some (.f2 .staZpx)
  | 0x96#8 => some (.f2 .stxZpy)
  | 0x98#8 => some (.f1 .tya)
  | 0x99#8 => some (.f3 .staAbsy)
  | 0x9A#8 => some (.f1 .txs)
  | 0x9D#8 => some (.f3 .staAbsx)
  | 0xA0#8 => some (.f2 .ldyImm)
  | 0xA1#8 => some (.f2 .ldaIndx)
  | 0xA2#8 => some (.f2 .ldxImm)
  | 0xA4#8 => some (.f2 .ldyZp)
  | 0xA5#8 => some (.f2 .ldaZp)
  | 0xA6#8 => some (.f2 .ldxZp)
  | 0xA8#8 => some (.f1 .tay)
  | 0xA9#8 => some (.f2 .ldaImm)
  | 0xAA#8 => some (.f1 .tax)
  | 0xAC#8 => some (.f3 .ldyAbs)
  | 0xAD#8 => some (.f3 .ldaAbs)
  | 0xAE#8 => some (.f3 .ldxAbs)
  | 0xB0#8 => some (.f2 .bcs)
  | 0xB1#8 => some (.f2 .ldaIndy)
  | 0xB4#8 => some (.f2 .ldyZpx)
  | 0xB5#8 => some (.f2 .ldaZpx)
  | 0xB6#8 => some (.f2 .ldxZpy)
  | 0xB8#8 => some (.f1 .clv)
  | 0xB9#8 => some (.f3 .ldaAbsy)
  | 0xBA#8 => some (.f1 .tsx)
  | 0xBC#8 => some (.f3 .ldyAbsx)
  | 0xBD#8 => some (.f3 .ldaAbsx)
  | 0xBE#8 => some (.f3 .ldxAbsy)
  | 0xC0#8 => some (.f2 .cpyImm)
  | 0xC1#8 => some (.f2 .cmpIndx)
  | 0xC4#8 => some (.f2 .cpyZp)
  | 0xC5#8 => some (.f2 .cmpZp)
  | 0xC6#8 => some (.f2 .decZp)
  | 0xC8#8 => some (.f1 .iny)
  | 0xC9#8 => some (.f2 .cmpImm)
  | 0xCA#8 => some (.f1 .dex)
  | 0xCC#8 => some (.f3 .cpyAbs)
  | 0xCD#8 => some (.f3 .cmpAbs)
  | 0xCE#8 => some (.f3 .decAbs)
  | 0xD0#8 => some (.f2 .bne)
  | 0xD1#8 => some (.f2 .cmpIndy)
  | 0xD5#8 => some (.f2 .cmpZpx)
  | 0xD6#8 => some (.f2 .decZpx)
  | 0xD8#8 => some (.f1 .cld)
  | 0xD9#8 => some (.f3 .cmpAbsy)
  | 0xDD#8 => some (.f3 .cmpAbsx)
  | 0xDE#8 => some (.f3 .decAbsx)
  | 0xE0#8 => some (.f2 .cpxImm)
  | 0xE1#8 => some (.f2 .sbcIndx)
  | 0xE4#8 => some (.f2 .cpxZp)
  | 0xE5#8 => some (.f2 .sbcZp)
  | 0xE6#8 => some (.f2 .incZp)
  | 0xE8#8 => some (.f1 .inx)
  | 0xE9#8 => some (.f2 .sbcImm)
  | 0xEA#8 => some (.f1 .nop)
  | 0xEC#8 => some (.f3 .cpxAbs)
  | 0xED#8 => some (.f3 .sbcAbs)
  | 0xEE#8 => some (.f3 .incAbs)
  | 0xF0#8 => some (.f2 .beq)
  | 0xF1#8 => some (.f2 .sbcIndy)
  | 0xF5#8 => some (.f2 .sbcZpx)
  | 0xF6#8 => some (.f2 .incZpx)
  | 0xF8#8 => some (.f1 .sed)
  | 0xF9#8 => some (.f3 .sbcAbsy)
  | 0xFD#8 => some (.f3 .sbcAbsx)
  | 0xFE#8 => some (.f3 .incAbsx)
  | _ => none

/-- Reads one instruction from the front of a byte string (R120, R122, R123) and gives the rest back. -/
def decode : List Byte → Except DecodeError (Instr × List Byte)
  | [] => .error .truncated
  | op :: bytes =>
    match opcodeEntry op with
    | none => .error (.undefinedOpcode op)
    | some (.f1 i) => .ok (i, bytes)
    | some (.f2 make) =>
      match bytes with
      | b1 :: rest => .ok (make b1, rest)
      | [] => .error .truncated
    | some (.f3 make) =>
      match bytes with
      | b1 :: b2 :: rest => .ok (make (mkWord b2 b1), rest)
      | _ => .error .truncated

/-- The bytes of an instruction in the order they lie in memory (R122, R123). -/
def encode : Instr → List Byte
  | .ldaImm v => [0xA9, v]
  | .ldaZp b => [0xA5, b]
  | .ldaZpx b => [0xB5, b]
  | .ldaAbs w => [0xAD, loByte w, hiByte w]
  | .ldaAbsx w => [0xBD, loByte w, hiByte w]
  | .ldaAbsy w => [0xB9, loByte w, hiByte w]
  | .ldaIndx b => [0xA1, b]
  | .ldaIndy b => [0xB1, b]
  | .ldxImm v => [0xA2, v]
  | .ldxZp b => [0xA6, b]
  | .ldxZpy b => [0xB6, b]
  | .ldxAbs w => [0xAE, loByte w, hiByte w]
  | .ldxAbsy w => [0xBE, loByte w, hiByte w]
  | .ldyImm v => [0xA0, v]
  | .ldyZp b => [0xA4, b]
  | .ldyZpx b => [0xB4, b]
  | .ldyAbs w => [0xAC, loByte w, hiByte w]
  | .ldyAbsx w => [0xBC, loByte w, hiByte w]
  | .staZp b => [0x85, b]
  | .staZpx b => [0x95, b]
  | .staAbs w => [0x8D, loByte w, hiByte w]
  | .staAbsx w => [0x9D, loByte w, hiByte w]
  | .staAbsy w => [0x99, loByte w, hiByte w]
  | .staIndx b => [0x81, b]
  | .staIndy b => [0x91, b]
  | .stxZp b => [0x86, b]
  | .stxZpy b => [0x96, b]
  | .stxAbs w => [0x8E, loByte w, hiByte w]
  | .styZp b => [0x84, b]
  | .styZpx b => [0x94, b]
  | .styAbs w => [0x8C, loByte w, hiByte w]
  | .tax => [0xAA]
  | .tay => [0xA8]
  | .tsx => [0xBA]
  | .txa => [0x8A]
  | .txs => [0x9A]
  | .tya => [0x98]
  | .pha => [0x48]
  | .php => [0x08]
  | .pla => [0x68]
  | .plp => [0x28]
  | .adcImm v => [0x69, v]
  | .adcZp b => [0x65, b]
  | .adcZpx b => [0x75, b]
  | .adcAbs w => [0x6D, loByte w, hiByte w]
  | .adcAbsx w => [0x7D, loByte w, hiByte w]
  | .adcAbsy w => [0x79, loByte w, hiByte w]
  | .adcIndx b => [0x61, b]
  | .adcIndy b => [0x71, b]
  | .sbcImm v => [0xE9, v]
  | .sbcZp b => [0xE5, b]
  | .sbcZpx b => [0xF5, b]
  | .sbcAbs w => [0xED, loByte w, hiByte w]
  | .sbcAbsx w => [0xFD, loByte w, hiByte w]
  | .sbcAbsy w => [0xF9, loByte w, hiByte w]
  | .sbcIndx b => [0xE1, b]
  | .sbcIndy b => [0xF1, b]
  | .andImm v => [0x29, v]
  | .andZp b => [0x25, b]
  | .andZpx b => [0x35, b]
  | .andAbs w => [0x2D, loByte w, hiByte w]
  | .andAbsx w => [0x3D, loByte w, hiByte w]
  | .andAbsy w => [0x39, loByte w, hiByte w]
  | .andIndx b => [0x21, b]
  | .andIndy b => [0x31, b]
  | .oraImm v => [0x09, v]
  | .oraZp b => [0x05, b]
  | .oraZpx b => [0x15, b]
  | .oraAbs w => [0x0D, loByte w, hiByte w]
  | .oraAbsx w => [0x1D, loByte w, hiByte w]
  | .oraAbsy w => [0x19, loByte w, hiByte w]
  | .oraIndx b => [0x01, b]
  | .oraIndy b => [0x11, b]
  | .eorImm v => [0x49, v]
  | .eorZp b => [0x45, b]
  | .eorZpx b => [0x55, b]
  | .eorAbs w => [0x4D, loByte w, hiByte w]
  | .eorAbsx w => [0x5D, loByte w, hiByte w]
  | .eorAbsy w => [0x59, loByte w, hiByte w]
  | .eorIndx b => [0x41, b]
  | .eorIndy b => [0x51, b]
  | .bitZp b => [0x24, b]
  | .bitAbs w => [0x2C, loByte w, hiByte w]
  | .cmpImm v => [0xC9, v]
  | .cmpZp b => [0xC5, b]
  | .cmpZpx b => [0xD5, b]
  | .cmpAbs w => [0xCD, loByte w, hiByte w]
  | .cmpAbsx w => [0xDD, loByte w, hiByte w]
  | .cmpAbsy w => [0xD9, loByte w, hiByte w]
  | .cmpIndx b => [0xC1, b]
  | .cmpIndy b => [0xD1, b]
  | .cpxImm v => [0xE0, v]
  | .cpxZp b => [0xE4, b]
  | .cpxAbs w => [0xEC, loByte w, hiByte w]
  | .cpyImm v => [0xC0, v]
  | .cpyZp b => [0xC4, b]
  | .cpyAbs w => [0xCC, loByte w, hiByte w]
  | .incZp b => [0xE6, b]
  | .incZpx b => [0xF6, b]
  | .incAbs w => [0xEE, loByte w, hiByte w]
  | .incAbsx w => [0xFE, loByte w, hiByte w]
  | .decZp b => [0xC6, b]
  | .decZpx b => [0xD6, b]
  | .decAbs w => [0xCE, loByte w, hiByte w]
  | .decAbsx w => [0xDE, loByte w, hiByte w]
  | .inx => [0xE8]
  | .iny => [0xC8]
  | .dex => [0xCA]
  | .dey => [0x88]
  | .aslAcc => [0x0A]
  | .aslZp b => [0x06, b]
  | .aslZpx b => [0x16, b]
  | .aslAbs w => [0x0E, loByte w, hiByte w]
  | .aslAbsx w => [0x1E, loByte w, hiByte w]
  | .lsrAcc => [0x4A]
  | .lsrZp b => [0x46, b]
  | .lsrZpx b => [0x56, b]
  | .lsrAbs w => [0x4E, loByte w, hiByte w]
  | .lsrAbsx w => [0x5E, loByte w, hiByte w]
  | .rolAcc => [0x2A]
  | .rolZp b => [0x26, b]
  | .rolZpx b => [0x36, b]
  | .rolAbs w => [0x2E, loByte w, hiByte w]
  | .rolAbsx w => [0x3E, loByte w, hiByte w]
  | .rorAcc => [0x6A]
  | .rorZp b => [0x66, b]
  | .rorZpx b => [0x76, b]
  | .rorAbs w => [0x6E, loByte w, hiByte w]
  | .rorAbsx w => [0x7E, loByte w, hiByte w]
  | .jmpAbs w => [0x4C, loByte w, hiByte w]
  | .jmpInd w => [0x6C, loByte w, hiByte w]
  | .jsrAbs w => [0x20, loByte w, hiByte w]
  | .rts => [0x60]
  | .rti => [0x40]
  | .brk => [0x00]
  | .bcc d => [0x90, d]
  | .bcs d => [0xB0, d]
  | .beq d => [0xF0, d]
  | .bmi d => [0x30, d]
  | .bne d => [0xD0, d]
  | .bpl d => [0x10, d]
  | .bvc d => [0x50, d]
  | .bvs d => [0x70, d]
  | .clc => [0x18]
  | .cld => [0xD8]
  | .cli => [0x58]
  | .clv => [0xB8]
  | .sec => [0x38]
  | .sed => [0xF8]
  | .sei => [0x78]
  | .nop => [0xEA]

/-- The opcode byte of an instruction. -/
def opcodeOf (i : Instr) : Byte := (encode i).headD 0

/-- The length of an instruction in bytes (R122). -/
def Instr.length (i : Instr) : Nat := (encode i).length

/-- The three bytes at the front of a table word: bit 0 is the least significant bit of the first byte, and the bits
above `nbits` are 0. -/
def tableBytes (nbits w : Nat) : List Byte :=
  let v := w % 2 ^ nbits
  [BitVec.ofNat 8 v, BitVec.ofNat 8 (v / 256), BitVec.ofNat 8 (v / 65536)]

/-- The instruction the decoder reads from a word numbered as spec/opcode_table.json numbers it. -/
def decodeTableWord (nbits w : Nat) : Option Instr :=
  match decode (tableBytes nbits w) with
  | .ok (i, _) => some i
  | .error _ => none

end Sys2Proof
end

