-- ==== Sys2Proof/Machine/Memory.lean ====
section
/-! DEFINITION. Byte arrays as plain data: a list of (index, byte) cells in one canonical form (indices strictly rising,
no cell that holds what an unlisted index reads as), and the PRG index of a CPU address (20_memory.md R78). -/

namespace Sys2Proof.Machine

/-- A keyed list with its keys strictly rising: looking a key up. -/
def lookupKey {α : Type} (k : Nat) : List (Nat × α) → Option α
  | [] => none
  | (j, v) :: rest => if k = j then some v else lookupKey k rest

/-- Setting the value of a key, keeping the keys strictly rising. -/
def insertKey {α : Type} (k : Nat) (v : α) : List (Nat × α) → List (Nat × α)
  | [] => [(k, v)]
  | (j, u) :: rest =>
    if k < j then (k, v) :: (j, u) :: rest
    else if k = j then (k, v) :: rest
    else (j, u) :: insertKey k v rest

/-- Removing a key. -/
def eraseKey {α : Type} (k : Nat) : List (Nat × α) → List (Nat × α)
  | [] => []
  | (j, u) :: rest => if k = j then eraseKey k rest else (j, u) :: eraseKey k rest

/-- The keys are strictly rising. -/
def keysRise {α : Type} : List (Nat × α) → Bool
  | [] => true
  | [_] => true
  | (j, _) :: (k, v) :: rest => decide (j < k) && keysRise ((k, v) :: rest)

/-- A byte array (one of ram, sram, prg, ciram, palette, chr, oam: 10_state.md R42 to R48). -/
abbrev Memory := List Host.Cell

/-- What an unlisted index reads as: 0x00 (DESIGN CHOICE, log 3; the spec leaves the power-on contents open). -/
def Memory.unlisted : Byte := 0x00

/-- One byte of the array. -/
def Memory.read (m : Memory) (i : Nat) : Byte := (lookupKey i m).getD Memory.unlisted

/-- Storing one byte, keeping the canonical form. -/
def Memory.write (m : Memory) (i : Nat) (v : Byte) : Memory :=
  if v = Memory.unlisted then eraseKey i m else insertKey i v m

/-- The canonical form: indices strictly rising, no cell equal to what an unlisted index reads as. -/
def Memory.wf (m : Memory) : Bool := keysRise m && m.all fun c => c.2 != Memory.unlisted

/-- Every listed index lies below the array's size. -/
def Memory.fits (size : Nat) (m : Memory) : Bool := m.all fun c => decide (c.1 < size)

/-- The length of the PRG buffer (00_scope.md R9). -/
def prgLength : PrgSize → Nat
  | .kb16 => 16384
  | .kb32 => 32768

/-- The PRG index of a CPU address from 0x8000 up: `(a - 0x8000) mod len(prg)` (R78). -/
def prgIndex (size : PrgSize) (a : Word) : Nat := (a - 0x8000#16).toNat % prgLength size

end Sys2Proof.Machine
end

