-- ==== Sys2Proof/Machine/State.lean ====
section
/-! DEFINITION. The state of the machine (10_state.md), the reasons it stops, its named updates and its state at power-on
(70_reset_and_hazards.md R430, R431). -/

namespace Sys2Proof.Machine

/-- The direction of a bus access (60_exceptions.md R400). -/
inductive Direction where
  | read
  | write
deriving DecidableEq, Repr

/-- A fatal error with the information R400 records. -/
inductive FatalError where
  /-- the fetched opcode is undefined: opcode byte and PC of the opcode -/
  | invalidOpcode (opcode : Byte) (opPc : Word)
  /-- a PPU register access without a handler: CPU address, direction, and the opcode and PC of the instruction making
  the access; the opcode is `none` when the access is the opcode fetch itself (DESIGN CHOICE, log 6) -/
  | unrecognizedIoAccess (addr : Word) (dir : Direction) (opcode : Option Byte) (opPc : Word)
  /-- a visible scanline rendered with 8x16 sprites set: the scanline number -/
  | unimplementedAddressingEdgeCase (scanline : Nat)
deriving DecidableEq, Repr

/-- `run` (R33). -/
inductive RunState where
  | running
  | halted (error : FatalError)
deriving DecidableEq, Repr

/-- One copy of the PPU scroll fields: the latches of R40 (but for FH) or the counters of R41. -/
structure Scroll where
  /-- fine vertical -/
  fv : BitVec 3
  /-- vertical name-table select -/
  v : BitVec 1
  /-- horizontal name-table select -/
  h : BitVec 1
  /-- vertical tile index -/
  vt : BitVec 5
  /-- horizontal tile index -/
  ht : BitVec 5
deriving DecidableEq, Repr

/-- One pixel of the output frame: a 6-bit colour index (R49, R364). -/
abbrev Pixel := BitVec 6

/-- The output frame (R49): the rows written so far, by row number; a row that is absent has not been written and is not
readable (log 11). -/
abbrev Frame := List (Nat × List Pixel)

/-- The PPU: registers, status flags, latches, counters, memories and output (R34 to R41, R45 to R49). -/
structure Ppu where
  /-- PPUCTRL (R34) -/
  ctrl : Byte
  /-- PPUMASK (R35) -/
  mask : Byte
  /-- PPUSTATUS bit 7, VBLANK (R36) -/
  vblank : Bool
  /-- PPUSTATUS bit 6, SPR0_HIT (R36) -/
  spr0Hit : Bool
  /-- PPUSTATUS bit 5, SPR_OVF (R36) -/
  sprOvf : Bool
  /-- the sprite-RAM cursor (R37) -/
  oamAddr : Byte
  /-- the write toggle: `false` is 0, the next 0x2005 or 0x2006 write is the first of a pair (R38) -/
  w : Bool
  /-- the PPUDATA read-ahead buffer (R39) -/
  readBuffer : Byte
  /-- the latches regFV, regV, regH, regVT, regHT (R40) -/
  reg : Scroll
  /-- the latch regFH (R40) -/
  regFH : BitVec 3
  /-- the counters cntFV, cntV, cntH, cntVT, cntHT (R41) -/
  cnt : Scroll
  /-- name-table RAM, 2048 bytes (R45) -/
  ciram : Memory
  /-- palette RAM, 32 bytes (R46) -/
  palette : Memory
  /-- pattern-table memory, 8192 bytes (R47) -/
  chr : Memory
  /-- sprite RAM, 256 bytes (R48) -/
  oam : Memory
  /-- the output frame (R49) -/
  frame : Frame
deriving DecidableEq, Repr

/-- The controller (R50 to R52). -/
structure Pad where
  /-- A, B, Select, Start, Up, Down, Left, Right (R50) -/
  buttons : Vector Bool 8
  /-- the read cursor, 0 to 8 (R51) -/
  cursor : Fin 9
  /-- bit 0 of the last value written to 0x4016 (R52) -/
  prevStrobe : Bool
deriving DecidableEq, Repr

/-- The scheduler (R53). -/
structure Sched where
  /-- the next scanline to render -/
  line : Fin 262
  /-- CPU cycles not yet charged to a scanline -/
  acc : Nat
deriving DecidableEq, Repr

/-- The whole machine (10_state.md). -/
structure State where
  /-- accumulator A (R20) -/
  a : Byte
  /-- index X (R20) -/
  x : Byte
  /-- index Y (R20) -/
  y : Byte
  /-- stack pointer S (R21) -/
  sp : Byte
  /-- status register P (R23) -/
  p : Byte
  /-- program counter (R22) -/
  pc : Word
  /-- run state (R33) -/
  run : RunState
  /-- CPU RAM, 2048 bytes (R42) -/
  ram : Memory
  /-- cartridge SRAM, 8192 bytes (R43) -/
  sram : Memory
  /-- PRG-ROM (R44) -/
  prg : Memory
  /-- the PPU (R34 to R41, R45 to R49) -/
  ppu : Ppu
  /-- the controller (R50 to R52) -/
  pad : Pad
  /-- the scheduler (R53) -/
  sched : Sched
  /-- stall cycles of the current CPU step (30_encoding.md R120, R430) -/
  dmaStall : Nat
  /-- the cost the last CPU step returned (R120): the model's own field (log 7) -/
  cyc : Nat
  /-- the configuration (00_scope.md R9), which no step changes: the model's own field (log 1) -/
  cfg : Config
deriving DecidableEq, Repr

/-- Why a step has no next state. -/
inductive Fault where
  /-- raised by `step` on a Halted machine, which takes no further step (R33, 60_exceptions.md R402); safe: it is the
  spec's own stop, and `error` is the recorded fatal error -/
  | halted (error : FatalError)
deriving DecidableEq, Repr

/-- Why an operation has no meaning. -/
inductive Refusal where
  /-- an instruction whose meaning is not written yet (no arm uses it); safe -/
  | notModelled (mnemonic : String)
  /-- raised by `hostReset`, never by `step`: a reset request on a Halted machine is refused (70_reset_and_hazards.md
  R432); safe: it is the spec's own refusal -/
  | resetWhenHalted
deriving DecidableEq, Repr

def State.setA (s : State) (v : Byte) : State := { s with a := v }
def State.setX (s : State) (v : Byte) : State := { s with x := v }
def State.setY (s : State) (v : Byte) : State := { s with y := v }
def State.setSp (s : State) (v : Byte) : State := { s with sp := v }
def State.setP (s : State) (v : Byte) : State := { s with p := v }
def State.setPc (s : State) (v : Word) : State := { s with pc := v }
def State.setRun (s : State) (v : RunState) : State := { s with run := v }
def State.setRam (s : State) (v : Memory) : State := { s with ram := v }
def State.setSram (s : State) (v : Memory) : State := { s with sram := v }
def State.setPrg (s : State) (v : Memory) : State := { s with prg := v }
def State.setPpu (s : State) (v : Ppu) : State := { s with ppu := v }
def State.setPad (s : State) (v : Pad) : State := { s with pad := v }
def State.setSched (s : State) (v : Sched) : State := { s with sched := v }
def State.setDmaStall (s : State) (v : Nat) : State := { s with dmaStall := v }
def State.setCyc (s : State) (v : Nat) : State := { s with cyc := v }
def State.setCfg (s : State) (v : Config) : State := { s with cfg := v }

/-- The byte arrays a power-on supplies: PRG, CHR and the OPEN draws `INIT_*` (R9). `chr` is the CHR buffer when the
configuration supplies one and `INIT_CHR_RAM` otherwise. -/
structure PowerOnImage where
  prg : Memory
  chr : Memory
  ram : Memory
  sram : Memory
  ciram : Memory
  palette : Memory
  oam : Memory
deriving DecidableEq, Repr

/-- The image with nothing listed: every byte reads 0x00 (DESIGN CHOICE, log 2 and 3). -/
def PowerOnImage.blank : PowerOnImage where
  prg := []
  chr := []
  ram := []
  sram := []
  ciram := []
  palette := []
  oam := []

/-- Every scroll field 0. -/
def Scroll.zero : Scroll where
  fv := 0
  v := 0
  h := 0
  vt := 0
  ht := 0

/-- The PPU at power-on (R430). -/
def Ppu.powerOn (m : PowerOnImage) : Ppu where
  ctrl := 0x00
  mask := 0x00
  vblank := false
  spr0Hit := false
  sprOvf := false
  oamAddr := 0x00
  w := false
  readBuffer := 0x00
  reg := Scroll.zero
  regFH := 0
  cnt := Scroll.zero
  ciram := m.ciram
  palette := m.palette
  chr := m.chr
  oam := m.oam
  frame := []

/-- The machine after power-on and the reset sequence, for any configuration and any draw (R430, R431). The vector bytes
at 0xFFFC and 0xFFFD are PRG bytes (20_memory.md R78, R83). -/
def State.powerOn (cfg : Config) (m : PowerOnImage) : State where
  a := 0x00
  x := 0x00
  y := 0x00
  sp := 0xFF
  p := 0x20
  pc := mkWord (m.prg.read (prgIndex cfg.prgSize 0xFFFD)) (m.prg.read (prgIndex cfg.prgSize 0xFFFC))
  run := .running
  ram := m.ram
  sram := m.sram
  prg := m.prg
  ppu := Ppu.powerOn m
  pad := { buttons := Vector.replicate 8 false, cursor := 0, prevStrobe := false }
  sched := { line := 0, acc := 0 }
  dmaStall := 0
  cyc := 0
  cfg := cfg

/-- The machine right after reset: `State.powerOn` of the default configuration with nothing listed in any memory (log 2
and 3). -/
def State.reset : State := State.powerOn Config.default PowerOnImage.blank

end Sys2Proof.Machine
end

