-- ==== Sys2Proof/Machine/Controller.lean ====
section
/-! DEFINITION. The controller port 0x4016 (52_controller.md R384, R385). -/

namespace Sys2Proof.Machine

/-- The cursor one further, saturating at 8 (R384). -/
def advanceCursor (c : Fin 9) : Fin 9 := if h : c.val < 8 then ⟨c.val + 1, by omega⟩ else c

/-- `PadRead` (R384): the button at the cursor in bit 0, then the cursor advances; beyond the eighth a constant 1. -/
def padRead (d : Pad) : Byte × Pad :=
  (if h : d.cursor.val < 8 then (if d.buttons[d.cursor.val] then 0x01 else 0x00) else 0x01,
    { d with cursor := advanceCursor d.cursor })

/-- `PadWrite` (R385): a falling edge of bit 0 resets the cursor. -/
def padWrite (v : Byte) (d : Pad) : Pad :=
  { d with
    cursor := if d.prevStrobe && !bitOf v 0 then 0 else d.cursor
    prevStrobe := bitOf v 0 }

end Sys2Proof.Machine
end

