-- ==== Sys2Proof/Machine/PpuMemory.lean ====
section
/-! DEFINITION. The PPU's own address space with its mirroring (20_memory.md R90 to R95) and the address helpers of the
counters (50_ppu_registers.md R327 to R334). -/

namespace Sys2Proof.Machine

/-- `NtIndex` (R93, R95): the ciram index of a name-table address. -/
def ntIndex (m : Mirroring) (a : Word) : Nat :=
  let n := (a - 0x2000#16) &&& 0x0FFF#16
  match m with
  | .vertical => (n &&& 0x07FF#16).toNat
  | .horizontal => ((((n >>> 11) &&& 1#16) <<< 10) ||| (n &&& 0x03FF#16)).toNat

/-- `PalIndex` (R94): the palette index of an address, with 0x10, 0x14, 0x18, 0x1C aliased to 0x00, 0x04, 0x08, 0x0C. -/
def palIndex (a : Word) : Nat :=
  let o := a &&& 0x1F#16
  if o &&& 0x13#16 = 0x10#16 then (o &&& 0x0F#16).toNat else o.toNat

/-- `PpuRead` (R90): no side effects. -/
def ppuRead (cfg : Config) (p : Ppu) (addr : Word) : Byte :=
  let a := addr &&& 0x3FFF#16
  if a ≤ 0x1FFF#16 then p.chr.read a.toNat
  else if a ≤ 0x3EFF#16 then p.ciram.read (ntIndex cfg.mirroring a)
  else p.palette.read (palIndex a)

/-- `PpuWrite` (R91): a write to CHR-ROM has no effect. -/
def ppuWrite (cfg : Config) (p : Ppu) (addr : Word) (v : Byte) : Ppu :=
  let a := addr &&& 0x3FFF#16
  if a ≤ 0x1FFF#16 then
    if cfg.chrRom then p else { p with chr := p.chr.write a.toNat v }
  else if a ≤ 0x3EFF#16 then { p with ciram := p.ciram.write (ntIndex cfg.mirroring a) v }
  else { p with palette := p.palette.write (palIndex a) v }

/-- The 15-bit value `(FV << 12) | (V << 11) | (H << 10) | (VT << 5) | HT` of R326. -/
def Scroll.bits (c : Scroll) : BitVec 15 := c.fv ++ c.v ++ c.h ++ c.vt ++ c.ht

/-- `vram_address()` (R327): the low 14 bits of the counters' value. -/
def vramAddress (c : Scroll) : Word := (c.bits.extractLsb' 0 14).setWidth 16

/-- `nametable_address()` (R330). -/
def nametableAddress (c : Scroll) : Word := 0x2000#16 ||| (c.bits.extractLsb' 0 12).setWidth 16

/-- `attributetable_address()` (R331). -/
def attributetableAddress (c : Scroll) : Word :=
  0x23C0#16 ||| (c.v.setWidth 16 <<< 11) ||| (c.h.setWidth 16 <<< 10)
    ||| ((c.vt >>> 2).setWidth 16 <<< 3) ||| (c.ht >>> 2).setWidth 16

/-- `patterntable_address(t)` (R332): the plane-0 byte of the tile's current row; the plane-1 byte is 8 further. -/
def patterntableAddress (ctrl : Byte) (c : Scroll) (t : Byte) : Word :=
  ((if bitOf ctrl 4 then 1#16 else 0#16) <<< 12) ||| (t.setWidth 16 <<< 4) ||| c.fv.setWidth 16

/-- `palette_select_bits(attr)` (R333): the background palette number of the tile's quadrant. -/
def paletteSelectBits (c : Scroll) (attr : Byte) : BitVec 2 :=
  (attr >>> (((c.vt &&& 2) <<< 1) ||| (c.ht &&& 2)).toNat).extractLsb' 0 2

end Sys2Proof.Machine
end

