-- ==== Sys2Proof/Machine/PpuRegisters.lean ====
section
/-! DEFINITION. The PPU registers the CPU reaches at 0x2000 to 0x3FFF: each access with its side effects
(50_ppu_registers.md R312 to R326). -/

namespace Sys2Proof.Machine

/-- PPUSTATUS read (R312): the byte, with VBLANK from before the clear, and the PPU after it. -/
def statusRead (p : Ppu) : Byte × Ppu :=
  ((if p.vblank then 0x80 else 0x00) ||| (if p.spr0Hit then 0x40 else 0x00) ||| (if p.sprOvf then 0x20 else 0x00),
    { p with vblank := false, w := false })

/-- PPUCTRL write (R313): the name-table bits go to the latches only. -/
def ctrlWrite (v : Byte) (p : Ppu) : Ppu :=
  { p with ctrl := v, reg := { p.reg with v := v.extractLsb' 1 1, h := v.extractLsb' 0 1 } }

/-- PPUMASK write (R314). -/
def maskWrite (v : Byte) (p : Ppu) : Ppu := { p with mask := v }

/-- OAMADDR write (R315). -/
def oamAddrWrite (v : Byte) (p : Ppu) : Ppu := { p with oamAddr := v }

/-- OAMDATA write (R320). -/
def oamDataWrite (v : Byte) (p : Ppu) : Ppu :=
  { p with oam := p.oam.write p.oamAddr.toNat v, oamAddr := p.oamAddr + 1 }

/-- OAMDATA read (R321): the read increments the cursor too. -/
def oamDataRead (p : Ppu) : Byte × Ppu := (p.oam.read p.oamAddr.toNat, { p with oamAddr := p.oamAddr + 1 })

/-- PPUSCROLL write (R316): horizontal scroll first, then vertical. -/
def scrollWrite (v : Byte) (p : Ppu) : Ppu :=
  if p.w then { p with reg := { p.reg with fv := v.extractLsb' 0 3, vt := v.extractLsb' 3 5 }, w := false }
  else { p with regFH := v.extractLsb' 0 3, reg := { p.reg with ht := v.extractLsb' 3 5 }, w := true }

/-- The latches after the first PPUADDR write (R317): FV bit 2 becomes 0. -/
def addrHigh (v : Byte) (r : Scroll) : Scroll :=
  { r with
    fv := (v.extractLsb' 4 2).setWidth 3
    v := v.extractLsb' 3 1
    h := v.extractLsb' 2 1
    vt := v.extractLsb' 0 2 ++ r.vt.extractLsb' 0 3 }

/-- The latches after the second PPUADDR write (R318). -/
def addrLow (v : Byte) (r : Scroll) : Scroll :=
  { r with vt := r.vt.extractLsb' 3 2 ++ v.extractLsb' 5 3, ht := v.extractLsb' 0 5 }

/-- PPUADDR write (R317, R318): the second write also loads the counters from the latches. -/
def addrWrite (v : Byte) (p : Ppu) : Ppu :=
  if p.w then { p with reg := addrLow v p.reg, cnt := addrLow v p.reg, w := false }
  else { p with reg := addrHigh v p.reg, w := true }

/-- `IncFV` (R326). -/
def incFV (c : Scroll) : Scroll := { c with fv := c.fv + 1 }

/-- `IncV` (R326): a carry out of V goes to FV. -/
def incV (c : Scroll) : Scroll :=
  let d := { c with v := c.v ^^^ 1 }
  if d.v = 0 then incFV d else d

/-- `IncH` (R326): a carry out of H goes to V. -/
def incH (c : Scroll) : Scroll :=
  let d := { c with h := c.h ^^^ 1 }
  if d.h = 0 then incV d else d

/-- `IncVT` (R326): VT wraps at 32 into H. -/
def incVT (c : Scroll) : Scroll :=
  let d := { c with vt := c.vt + 1 }
  if d.vt = 0 then incH d else d

/-- `IncHT` (R326): HT wraps at 32 into VT. -/
def incHT (c : Scroll) : Scroll :=
  let d := { c with ht := c.ht + 1 }
  if d.ht = 0 then incVT d else d

/-- `IncrementScrollCounters` (R326): by 1 or, with INC32 (PPUCTRL bit 2), by 32. -/
def incrementScrollCounters (p : Ppu) : Ppu :=
  { p with cnt := if bitOf p.ctrl 2 then incVT p.cnt else incHT p.cnt }

/-- PPUDATA write (R322). -/
def ppuDataWrite (cfg : Config) (v : Byte) (p : Ppu) : Ppu :=
  incrementScrollCounters (ppuWrite cfg p (vramAddress p.cnt) v)

/-- PPUDATA read (R323): buffered below 0x3F00, immediate in the palette region, where the buffer takes the name-table
byte beneath. -/
def ppuDataRead (cfg : Config) (p : Ppu) : Byte × Ppu :=
  let a := vramAddress p.cnt
  if a < 0x3F00#16 then
    (p.readBuffer, incrementScrollCounters { p with readBuffer := ppuRead cfg p a })
  else
    (ppuRead cfg p a, incrementScrollCounters { p with readBuffer := ppuRead cfg p (a - 0x1000#16) })

end Sys2Proof.Machine
end

