-- ==== Sys2Proof/Machine/Bus.lean ====
section
/-! DEFINITION. The CPU bus: the address map, the read and the write with their side effects, and the sprite DMA
(20_memory.md R70 to R84; 50_ppu_registers.md R310, R311). -/

namespace Sys2Proof.Machine

/-- The access a fatal `UnrecognizedIoAccess` reports (60_exceptions.md R400). -/
structure IoError where
  addr : Word
  dir : Direction
deriving DecidableEq, Repr

/-- What an access or an operation built from accesses ends in: a value and the state after it, or a fatal error and the
state at the raise point, which keeps every change made before (60_exceptions.md R402). -/
inductive Access (α : Type) where
  | ok (v : α) (s : State)
  | fatal (x : IoError) (s : State)
deriving DecidableEq, Repr

/-- The regions of the CPU address space (R71, R72). -/
inductive Region where
  /-- 0x0000 to 0x1FFF (R74) -/
  | ram
  /-- 0x2000 to 0x3FFF (R75) -/
  | ppu
  /-- 0x4014 (R84) -/
  | dma
  /-- 0x4016 (R384, R385) -/
  | pad
  /-- the rest of 0x4000 to 0x401F (R73) -/
  | io
  /-- 0x4020 to 0x5FFF (R76) -/
  | expansion
  /-- 0x6000 to 0x7FFF (R77) -/
  | sram
  /-- 0x8000 to 0xFFFF (R78) -/
  | prg
deriving DecidableEq, Repr

/-- The address map (R71, R72). -/
def regionOf (a : Word) : Region :=
  if a ≤ 0x1FFF#16 then .ram
  else if a ≤ 0x3FFF#16 then .ppu
  else if a = 0x4014#16 then .dma
  else if a = 0x4016#16 then .pad
  else if a ≤ 0x401F#16 then .io
  else if a ≤ 0x5FFF#16 then .expansion
  else if a ≤ 0x7FFF#16 then .sram
  else .prg

/-- The RAM index of an address: `a & 0x07FF` (R74). -/
def ramIndex (a : Word) : Nat := (a &&& 0x07FF#16).toNat

/-- The SRAM index of an address: `a - 0x6000` (R77). -/
def sramIndex (a : Word) : Nat := (a - 0x6000#16).toNat

/-- The PPU register number of an address: `a & 7` (R75). -/
def ppuRegister (a : Word) : Nat := (a &&& 7#16).toNat

/-- The PRG byte at an address from 0x8000 up (R78). -/
def State.prgByte (s : State) (a : Word) : Byte := s.prg.read (prgIndex s.cfg.prgSize a)

/-- `PpuRegRead` (R310) at a CPU address. -/
def ppuRegRead (a : Word) (s : State) : Access Byte :=
  match ppuRegister a with
  | 2 => .ok (statusRead s.ppu).1 (s.setPpu (statusRead s.ppu).2)
  | 4 => .ok (oamDataRead s.ppu).1 (s.setPpu (oamDataRead s.ppu).2)
  | 7 => .ok (ppuDataRead s.cfg s.ppu).1 (s.setPpu (ppuDataRead s.cfg s.ppu).2)
  | _ => .fatal { addr := a, dir := .read } s

/-- `PpuRegWrite` (R311) at a CPU address; the register without a handler is number 2. -/
def ppuRegWrite (a : Word) (v : Byte) (s : State) : Access Unit :=
  match ppuRegister a with
  | 0 => .ok () (s.setPpu (ctrlWrite v s.ppu))
  | 1 => .ok () (s.setPpu (maskWrite v s.ppu))
  | 3 => .ok () (s.setPpu (oamAddrWrite v s.ppu))
  | 4 => .ok () (s.setPpu (oamDataWrite v s.ppu))
  | 5 => .ok () (s.setPpu (scrollWrite v s.ppu))
  | 6 => .ok () (s.setPpu (addrWrite v s.ppu))
  | 7 => .ok () (s.setPpu (ppuDataWrite s.cfg v s.ppu))
  | _ => .fatal { addr := a, dir := .write } s

/-- `MemRead(a, 1)` (R71). -/
def busRead (a : Word) (s : State) : Access Byte :=
  match regionOf a with
  | .ram => .ok (s.ram.read (ramIndex a)) s
  | .ppu => ppuRegRead a s
  | .pad => .ok (padRead s.pad).1 (s.setPad (padRead s.pad).2)
  | .dma => .ok 0x00 s
  | .io => .ok 0x00 s
  | .expansion => .ok 0x00 s
  | .sram => .ok (s.sram.read (sramIndex a)) s
  | .prg => .ok (s.prgByte a) s

/-- One byte of the sprite DMA stored: `oam[(ppu.oam_addr + i) & 0xFF] <- b` (R84). -/
def storeOamByte (i : Nat) (b : Byte) (s : State) : State :=
  s.setPpu { s.ppu with oam := s.ppu.oam.write (s.ppu.oamAddr + BitVec.ofNat 8 i).toNat b }

/-- The copy loop of `OamDma` (R84) over the remaining indices, each byte read with the ordinary bus read. -/
def oamDmaCopy (page : Byte) : List Nat → State → Access Unit
  | [], s => .ok () s
  | i :: rest, s =>
    match busRead (mkWord page (BitVec.ofNat 8 i)) s with
    | .ok b t => oamDmaCopy page rest (storeOamByte i b t)
    | .fatal x t => .fatal x t

/-- `OamDma(v)` (R84): the whole copy, then the stall. -/
def oamDma (page : Byte) (s : State) : Access Unit :=
  match oamDmaCopy page (List.range 256) s with
  | .ok _ t => .ok () (t.setDmaStall (t.dmaStall + t.cfg.oamDmaStall))
  | .fatal x t => .fatal x t

/-- `MemWrite(a, 1, v)` (R72). -/
def busWrite (a : Word) (v : Byte) (s : State) : Access Unit :=
  match regionOf a with
  | .ram => .ok () (s.setRam (s.ram.write (ramIndex a) v))
  | .ppu => ppuRegWrite a v s
  | .dma => oamDma v s
  | .pad => .ok () (s.setPad (padWrite v s.pad))
  | .io => .ok () s
  | .expansion => .ok () s
  | .sram => .ok () (s.setSram (s.sram.write (sramIndex a) v))
  | .prg => .ok () s

end Sys2Proof.Machine
end

