-- ==== Sys2Proof/Machine/Flags.lean ====
section
/-! DEFINITION. The status register's fields (10_state.md R23) and every flag computation (43_arithmetic_logic.md R190 to
R198; 44_shift_rotate.md R220 to R223). -/

namespace Sys2Proof.Machine

/-- The fields of P (R23). -/
inductive Flag where
  | c
  | z
  | i
  | d
  | b
  | u
  | v
  | n
deriving DecidableEq, Repr

/-- The bit position of a field (R23). -/
def Flag.bit : Flag → Nat
  | .c => 0
  | .z => 1
  | .i => 2
  | .d => 3
  | .b => 4
  | .u => 5
  | .v => 6
  | .n => 7

/-- Reading a field of P. -/
def getFlag (f : Flag) (p : Byte) : Bool := p.getLsbD f.bit

/-- Writing a field of P, leaving every other bit. -/
def putFlag (f : Flag) (b : Bool) (p : Byte) : Byte :=
  if b then p ||| (1#8 <<< f.bit) else p &&& ~~~(1#8 <<< f.bit)

/-- `setNZ(v)` (R190). -/
def setNZ (v : Byte) (p : Byte) : Byte := putFlag .n (bitOf v 7) (putFlag .z (v == 0) p)

/-- The carry as a number, `P.C`. -/
def carryIn (p : Byte) : Nat := (getFlag .c p).toNat

/-- ADC's result byte (R191): `(A + m + C) & 0xFF`. -/
def adcResult (a m p : Byte) : Byte := BitVec.ofNat 8 (a.toNat + m.toNat + carryIn p)

/-- P after ADC (R191). -/
def adcFlags (a m p : Byte) : Byte :=
  let r := adcResult a m p
  setNZ r (putFlag .v (decide ((a ^^^ r) &&& (m ^^^ r) &&& 0x80 ≠ 0))
    (putFlag .c (decide (0xFF < a.toNat + m.toNat + carryIn p)) p))

/-- SBC's exact difference (R192): `A - m - (1 - C)`. -/
def sbcDifference (a m p : Byte) : Int := (a.toNat : Int) - m.toNat - (1 - carryIn p)

/-- SBC's result byte (R192). -/
def sbcResult (a m p : Byte) : Byte := BitVec.ofInt 8 (sbcDifference a m p)

/-- P after SBC (R192). -/
def sbcFlags (a m p : Byte) : Byte :=
  let r := sbcResult a m p
  setNZ r (putFlag .v (decide ((a ^^^ m) &&& (a ^^^ r) &&& 0x80 ≠ 0))
    (putFlag .c (decide (0 ≤ sbcDifference a m p)) p))

/-- P after `Compare(r, m)` (R197): the difference in a 16-bit temporary. -/
def compareFlags (r m p : Byte) : Byte :=
  let t : Word := zext16 r - zext16 m
  setNZ (loByte t) (putFlag .c (decide (t < 0x100#16)) p)

/-- P after BIT (R196): Z from `A & m`, V from bit 6 and N from bit 7 of m. -/
def bitFlags (a m p : Byte) : Byte :=
  putFlag .n (bitOf m 7) (putFlag .v (bitOf m 6) (putFlag .z (a &&& m == 0) p))

/-- P as loaded from a stack byte (R31): bit 5 forced to 1, bit 4 stored as 0. -/
def statusFromStack (v : Byte) : Byte := (v &&& 0xCF) ||| 0x20

/-- P as PHP and BRK push it (R30): B = 1, U = 1. -/
def statusForBreak (p : Byte) : Byte := p ||| 0x30

/-- P as the NMI entry pushes it (R30): B = 0, U = 1. -/
def statusForNmi (p : Byte) : Byte := (p &&& 0xEF) ||| 0x20

/-- ASL (R220). Like its three neighbours it gives the result byte and P with the carry written. -/
def aslByte (v p : Byte) : Byte × Byte := (v <<< 1, putFlag .c (bitOf v 7) p)

/-- LSR (R221). -/
def lsrByte (v p : Byte) : Byte × Byte := (v >>> 1, putFlag .c (bitOf v 0) p)

/-- ROL (R222): the old carry enters bit 0. -/
def rolByte (v p : Byte) : Byte × Byte :=
  ((v <<< 1) ||| (if getFlag .c p then 0x01 else 0x00), putFlag .c (bitOf v 7) p)

/-- ROR (R223): the old carry enters bit 7. -/
def rorByte (v p : Byte) : Byte × Byte :=
  ((v >>> 1) ||| (if getFlag .c p then 0x80 else 0x00), putFlag .c (bitOf v 0) p)

/-- INC (R201): no carry is written. -/
def incByte (v p : Byte) : Byte × Byte := (v + 1, p)

/-- DEC (R202): no carry is written. -/
def decByte (v p : Byte) : Byte × Byte := (v - 1, p)

end Sys2Proof.Machine
end

