-- ==== Sys2Proof/Machine/Ops.lean ====
section
/-! DEFINITION. The named operations over registers and memory: the stack (42_stack.md R180 to R186), the vectors, taking
an interrupt and returning from one (45_control_flow.md R233, R238; 60_exceptions.md R403), the reset sequence
(70_reset_and_hazards.md R431) and halting (60_exceptions.md R402). -/

namespace Sys2Proof.Machine

/-- The RAM index of the stack byte `0x0100 + S` (R21); the stack page is RAM (R74, log 10). -/
def stackIndex (sp : Byte) : Nat := 0x0100 + sp.toNat

/-- `Push(v)` (R180): store, then decrement. -/
def push (v : Byte) (s : State) : State := (s.setRam (s.ram.write (stackIndex s.sp) v)).setSp (s.sp - 1)

/-- `Pop()` (R181): increment, then load. -/
def pop (s : State) : Byte × State := (s.ram.read (stackIndex (s.sp + 1)), s.setSp (s.sp + 1))

/-- `Push16(w)` (R186): high byte first. -/
def push16 (w : Word) (s : State) : State := push (loByte w) (push (hiByte w) s)

/-- `Pop16()` (R186): low byte first. -/
def pop16 (s : State) : Word × State :=
  let lo := pop s
  let hi := pop lo.2
  (mkWord hi.1 lo.1, hi.2)

/-- The 16-bit vector at `v` and `v + 1` (R80, R83); the vectors are PRG bytes (log 10). -/
def readVector (v : Word) (s : State) : Word := mkWord (s.prgByte (v + 1)) (s.prgByte v)

/-- Taking an interrupt, shared by BRK (R238) and the NMI (R403): the return address is pushed high byte first, then the
status byte, I is set and the PC is loaded from the vector. -/
def enterInterrupt (returnPc : Word) (status : Byte) (vector : Word) (s : State) : State :=
  let t := push status (push16 returnPc s)
  (t.setP (putFlag .i true t.p)).setPc (readVector vector t)

/-- Returning from an interrupt (R233): status, then PC, without an addition. -/
def returnFromInterrupt (s : State) : State :=
  let v := pop s
  let w := pop16 (v.2.setP (statusFromStack v.1))
  w.2.setPc w.1

/-- The cost of an NMI entry (R403). -/
def nmiCycles : Nat := 7

/-- `NmiRequest()` (R403): dropped while I = 1, otherwise taken; with the cycles it took. -/
def nmiRequest (s : State) : State × Nat :=
  if getFlag .i s.p then (s, 0)
  else (enterInterrupt s.pc (statusForNmi s.p) 0xFFFA#16 s, nmiCycles)

/-- `Reset()` (R431). -/
def resetCpu (s : State) : State :=
  let t := ((((s.setSp 0xFF).setA 0x00).setX 0x00).setY 0x00).setP 0x20
  (t.setPc (readVector 0xFFFC#16 t)).setRun .running

/-- `raise Fatal(kind, info)` (R402): the state at the raise point with `run` Halted. -/
def State.halt (s : State) (e : FatalError) : State := s.setRun (.halted e)

end Sys2Proof.Machine
end

