-- ==== Sys2Proof/Machine/Timing.lean ====
section
/-! DEFINITION. Base cycle costs and page-cross marks of the opcode table (30_encoding.md R125) and the assembler's
mnemonics (R125, R128). -/

namespace Sys2Proof.Machine

/-- The base cycle cost of an instruction: the number after the slash in its cell of R125. -/
def baseCycles : Instr → Nat
  | .ldaImm _ => 2
  | .ldaZp _ => 3
  | .ldaZpx _ => 4
  | .ldaAbs _ => 4
  | .ldaAbsx _ => 4
  | .ldaAbsy _ => 4
  | .ldaIndx _ => 6
  | .ldaIndy _ => 5
  | .ldxImm _ => 2
  | .ldxZp _ => 3
  | .ldxZpy _ => 4
  | .ldxAbs _ => 4
  | .ldxAbsy _ => 4
  | .ldyImm _ => 2
  | .ldyZp _ => 3
  | .ldyZpx _ => 4
  | .ldyAbs _ => 4
  | .ldyAbsx _ => 4
  | .staZp _ => 3
  | .staZpx _ => 4
  | .staAbs _ => 4
  | .staAbsx _ => 5
  | .staAbsy _ => 5
  | .staIndx _ => 6
  | .staIndy _ => 6
  | .stxZp _ => 3
  | .stxZpy _ => 4
  | .stxAbs _ => 4
  | .styZp _ => 3
  | .styZpx _ => 4
  | .styAbs _ => 4
  | .tax => 2
  | .tay => 2
  | .tsx => 2
  | .txa => 2
  | .txs => 2
  | .tya => 2
  | .pha => 3
  | .php => 3
  | .pla => 4
  | .plp => 4
  | .adcImm _ => 2
  | .adcZp _ => 3
  | .adcZpx _ => 4
  | .adcAbs _ => 4
  | .adcAbsx _ => 4
  | .adcAbsy _ => 4
  | .adcIndx _ => 6
  | .adcIndy _ => 5
  | .sbcImm _ => 2
  | .sbcZp _ => 3
  | .sbcZpx _ => 4
  | .sbcAbs _ => 4
  | .sbcAbsx _ => 4
  | .sbcAbsy _ => 4
  | .sbcIndx _ => 6
  | .sbcIndy _ => 5
  | .andImm _ => 2
  | .andZp _ => 3
  | .andZpx _ => 4
  | .andAbs _ => 4
  | .andAbsx _ => 4
  | .andAbsy _ => 4
  | .andIndx _ => 6
  | .andIndy _ => 5
  | .oraImm _ => 2
  | .oraZp _ => 3
  | .oraZpx _ => 4
  | .oraAbs _ => 4
  | .oraAbsx _ => 4
  | .oraAbsy _ => 4
  | .oraIndx _ => 6
  | .oraIndy _ => 5
  | .eorImm _ => 2
  | .eorZp _ => 3
  | .eorZpx _ => 4
  | .eorAbs _ => 4
  | .eorAbsx _ => 4
  | .eorAbsy _ => 4
  | .eorIndx _ => 6
  | .eorIndy _ => 5
  | .bitZp _ => 3
  | .bitAbs _ => 4
  | .cmpImm _ => 2
  | .cmpZp _ => 3
  | .cmpZpx _ => 4
  | .cmpAbs _ => 4
  | .cmpAbsx _ => 4
  | .cmpAbsy _ => 4
  | .cmpIndx _ => 6
  | .cmpIndy _ => 5
  | .cpxImm _ => 2
  | .cpxZp _ => 3
  | .cpxAbs _ => 4
  | .cpyImm _ => 2
  | .cpyZp _ => 3
  | .cpyAbs _ => 4
  | .incZp _ => 5
  | .incZpx _ => 6
  | .incAbs _ => 6
  | .incAbsx _ => 7
  | .decZp _ => 5
  | .decZpx _ => 6
  | .decAbs _ => 6
  | .decAbsx _ => 7
  | .inx => 2
  | .iny => 2
  | .dex => 2
  | .dey => 2
  | .aslAcc => 2
  | .aslZp _ => 5
  | .aslZpx _ => 6
  | .aslAbs _ => 6
  | .aslAbsx _ => 7
  | .lsrAcc => 2
  | .lsrZp _ => 5
  | .lsrZpx _ => 6
  | .lsrAbs _ => 6
  | .lsrAbsx _ => 7
  | .rolAcc => 2
  | .rolZp _ => 5
  | .rolZpx _ => 6
  | .rolAbs _ => 6
  | .rolAbsx _ => 7
  | .rorAcc => 2
  | .rorZp _ => 5
  | .rorZpx _ => 6
  | .rorAbs _ => 6
  | .rorAbsx _ => 7
  | .jmpAbs _ => 3
  | .jmpInd _ => 5
  | .jsrAbs _ => 6
  | .rts => 6
  | .rti => 6
  | .brk => 7
  | .bcc _ => 2
  | .bcs _ => 2
  | .beq _ => 2
  | .bmi _ => 2
  | .bne _ => 2
  | .bpl _ => 2
  | .bvc _ => 2
  | .bvs _ => 2
  | .clc => 2
  | .cld => 2
  | .cli => 2
  | .clv => 2
  | .sec => 2
  | .sed => 2
  | .sei => 2
  | .nop => 2

/-- The rows R125 marks with `*`: a page crossed by the indexed address adds a cycle (R450). -/
def pageCrossMark : Instr → Bool
  | .ldaImm _ => false
  | .ldaZp _ => false
  | .ldaZpx _ => false
  | .ldaAbs _ => false
  | .ldaAbsx _ => true
  | .ldaAbsy _ => true
  | .ldaIndx _ => false
  | .ldaIndy _ => true
  | .ldxImm _ => false
  | .ldxZp _ => false
  | .ldxZpy _ => false
  | .ldxAbs _ => false
  | .ldxAbsy _ => true
  | .ldyImm _ => false
  | .ldyZp _ => false
  | .ldyZpx _ => false
  | .ldyAbs _ => false
  | .ldyAbsx _ => true
  | .staZp _ => false
  | .staZpx _ => false
  | .staAbs _ => false
  | .staAbsx _ => false
  | .staAbsy _ => false
  | .staIndx _ => false
  | .staIndy _ => false
  | .stxZp _ => false
  | .stxZpy _ => false
  | .stxAbs _ => false
  | .styZp _ => false
  | .styZpx _ => false
  | .styAbs _ => false
  | .tax => false
  | .tay => false
  | .tsx => false
  | .txa => false
  | .txs => false
  | .tya => false
  | .pha => false
  | .php => false
  | .pla => false
  | .plp => false
  | .adcImm _ => false
  | .adcZp _ => false
  | .adcZpx _ => false
  | .adcAbs _ => false
  | .adcAbsx _ => true
  | .adcAbsy _ => true
  | .adcIndx _ => false
  | .adcIndy _ => true
  | .sbcImm _ => false
  | .sbcZp _ => false
  | .sbcZpx _ => false
  | .sbcAbs _ => false
  | .sbcAbsx _ => true
  | .sbcAbsy _ => true
  | .sbcIndx _ => false
  | .sbcIndy _ => true
  | .andImm _ => false
  | .andZp _ => false
  | .andZpx _ => false
  | .andAbs _ => false
  | .andAbsx _ => true
  | .andAbsy _ => true
  | .andIndx _ => false
  | .andIndy _ => true
  | .oraImm _ => false
  | .oraZp _ => false
  | .oraZpx _ => false
  | .oraAbs _ => false
  | .oraAbsx _ => true
  | .oraAbsy _ => true
  | .oraIndx _ => false
  | .oraIndy _ => true
  | .eorImm _ => false
  | .eorZp _ => false
  | .eorZpx _ => false
  | .eorAbs _ => false
  | .eorAbsx _ => true
  | .eorAbsy _ => true
  | .eorIndx _ => false
  | .eorIndy _ => true
  | .bitZp _ => false
  | .bitAbs _ => false
  | .cmpImm _ => false
  | .cmpZp _ => false
  | .cmpZpx _ => false
  | .cmpAbs _ => false
  | .cmpAbsx _ => true
  | .cmpAbsy _ => true
  | .cmpIndx _ => false
  | .cmpIndy _ => true
  | .cpxImm _ => false
  | .cpxZp _ => false
  | .cpxAbs _ => false
  | .cpyImm _ => false
  | .cpyZp _ => false
  | .cpyAbs _ => false
  | .incZp _ => false
  | .incZpx _ => false
  | .incAbs _ => false
  | .incAbsx _ => false
  | .decZp _ => false
  | .decZpx _ => false
  | .decAbs _ => false
  | .decAbsx _ => false
  | .inx => false
  | .iny => false
  | .dex => false
  | .dey => false
  | .aslAcc => false
  | .aslZp _ => false
  | .aslZpx _ => false
  | .aslAbs _ => false
  | .aslAbsx _ => false
  | .lsrAcc => false
  | .lsrZp _ => false
  | .lsrZpx _ => false
  | .lsrAbs _ => false
  | .lsrAbsx _ => false
  | .rolAcc => false
  | .rolZp _ => false
  | .rolZpx _ => false
  | .rolAbs _ => false
  | .rolAbsx _ => false
  | .rorAcc => false
  | .rorZp _ => false
  | .rorZpx _ => false
  | .rorAbs _ => false
  | .rorAbsx _ => false
  | .jmpAbs _ => false
  | .jmpInd _ => false
  | .jsrAbs _ => false
  | .rts => false
  | .rti => false
  | .brk => false
  | .bcc _ => false
  | .bcs _ => false
  | .beq _ => false
  | .bmi _ => false
  | .bne _ => false
  | .bpl _ => false
  | .bvc _ => false
  | .bvs _ => false
  | .clc => false
  | .cld => false
  | .cli => false
  | .clv => false
  | .sec => false
  | .sed => false
  | .sei => false
  | .nop => false

/-- The mnemonic of an instruction (R125). -/
def mnemonic : Instr → String
  | .ldaImm _ => "LDA"
  | .ldaZp _ => "LDA"
  | .ldaZpx _ => "LDA"
  | .ldaAbs _ => "LDA"
  | .ldaAbsx _ => "LDA"
  | .ldaAbsy _ => "LDA"
  | .ldaIndx _ => "LDA"
  | .ldaIndy _ => "LDA"
  | .ldxImm _ => "LDX"
  | .ldxZp _ => "LDX"
  | .ldxZpy _ => "LDX"
  | .ldxAbs _ => "LDX"
  | .ldxAbsy _ => "LDX"
  | .ldyImm _ => "LDY"
  | .ldyZp _ => "LDY"
  | .ldyZpx _ => "LDY"
  | .ldyAbs _ => "LDY"
  | .ldyAbsx _ => "LDY"
  | .staZp _ => "STA"
  | .staZpx _ => "STA"
  | .staAbs _ => "STA"
  | .staAbsx _ => "STA"
  | .staAbsy _ => "STA"
  | .staIndx _ => "STA"
  | .staIndy _ => "STA"
  | .stxZp _ => "STX"
  | .stxZpy _ => "STX"
  | .stxAbs _ => "STX"
  | .styZp _ => "STY"
  | .styZpx _ => "STY"
  | .styAbs _ => "STY"
  | .tax => "TAX"
  | .tay => "TAY"
  | .tsx => "TSX"
  | .txa => "TXA"
  | .txs => "TXS"
  | .tya => "TYA"
  | .pha => "PHA"
  | .php => "PHP"
  | .pla => "PLA"
  | .plp => "PLP"
  | .adcImm _ => "ADC"
  | .adcZp _ => "ADC"
  | .adcZpx _ => "ADC"
  | .adcAbs _ => "ADC"
  | .adcAbsx _ => "ADC"
  | .adcAbsy _ => "ADC"
  | .adcIndx _ => "ADC"
  | .adcIndy _ => "ADC"
  | .sbcImm _ => "SBC"
  | .sbcZp _ => "SBC"
  | .sbcZpx _ => "SBC"
  | .sbcAbs _ => "SBC"
  | .sbcAbsx _ => "SBC"
  | .sbcAbsy _ => "SBC"
  | .sbcIndx _ => "SBC"
  | .sbcIndy _ => "SBC"
  | .andImm _ => "AND"
  | .andZp _ => "AND"
  | .andZpx _ => "AND"
  | .andAbs _ => "AND"
  | .andAbsx _ => "AND"
  | .andAbsy _ => "AND"
  | .andIndx _ => "AND"
  | .andIndy _ => "AND"
  | .oraImm _ => "ORA"
  | .oraZp _ => "ORA"
  | .oraZpx _ => "ORA"
  | .oraAbs _ => "ORA"
  | .oraAbsx _ => "ORA"
  | .oraAbsy _ => "ORA"
  | .oraIndx _ => "ORA"
  | .oraIndy _ => "ORA"
  | .eorImm _ => "EOR"
  | .eorZp _ => "EOR"
  | .eorZpx _ => "EOR"
  | .eorAbs _ => "EOR"
  | .eorAbsx _ => "EOR"
  | .eorAbsy _ => "EOR"
  | .eorIndx _ => "EOR"
  | .eorIndy _ => "EOR"
  | .bitZp _ => "BIT"
  | .bitAbs _ => "BIT"
  | .cmpImm _ => "CMP"
  | .cmpZp _ => "CMP"
  | .cmpZpx _ => "CMP"
  | .cmpAbs _ => "CMP"
  | .cmpAbsx _ => "CMP"
  | .cmpAbsy _ => "CMP"
  | .cmpIndx _ => "CMP"
  | .cmpIndy _ => "CMP"
  | .cpxImm _ => "CPX"
  | .cpxZp _ => "CPX"
  | .cpxAbs _ => "CPX"
  | .cpyImm _ => "CPY"
  | .cpyZp _ => "CPY"
  | .cpyAbs _ => "CPY"
  | .incZp _ => "INC"
  | .incZpx _ => "INC"
  | .incAbs _ => "INC"
  | .incAbsx _ => "INC"
  | .decZp _ => "DEC"
  | .decZpx _ => "DEC"
  | .decAbs _ => "DEC"
  | .decAbsx _ => "DEC"
  | .inx => "INX"
  | .iny => "INY"
  | .dex => "DEX"
  | .dey => "DEY"
  | .aslAcc => "ASL"
  | .aslZp _ => "ASL"
  | .aslZpx _ => "ASL"
  | .aslAbs _ => "ASL"
  | .aslAbsx _ => "ASL"
  | .lsrAcc => "LSR"
  | .lsrZp _ => "LSR"
  | .lsrZpx _ => "LSR"
  | .lsrAbs _ => "LSR"
  | .lsrAbsx _ => "LSR"
  | .rolAcc => "ROL"
  | .rolZp _ => "ROL"
  | .rolZpx _ => "ROL"
  | .rolAbs _ => "ROL"
  | .rolAbsx _ => "ROL"
  | .rorAcc => "ROR"
  | .rorZp _ => "ROR"
  | .rorZpx _ => "ROR"
  | .rorAbs _ => "ROR"
  | .rorAbsx _ => "ROR"
  | .jmpAbs _ => "JMP"
  | .jmpInd _ => "JMP"
  | .jsrAbs _ => "JSR"
  | .rts => "RTS"
  | .rti => "RTI"
  | .brk => "BRK"
  | .bcc _ => "BCC"
  | .bcs _ => "BCS"
  | .beq _ => "BEQ"
  | .bmi _ => "BMI"
  | .bne _ => "BNE"
  | .bpl _ => "BPL"
  | .bvc _ => "BVC"
  | .bvs _ => "BVS"
  | .clc => "CLC"
  | .cld => "CLD"
  | .cli => "CLI"
  | .clv => "CLV"
  | .sec => "SEC"
  | .sed => "SED"
  | .sei => "SEI"
  | .nop => "NOP"

end Sys2Proof.Machine
end

