-- ==== Sys2Proof/Machine/Operands.lean ====
section
/-! DEFINITION. The addressing modes (40_addressing_modes.md R140 to R155), the cycle additions (70_reset_and_hazards.md
R450), and the shapes of instruction the families are written with. When a meaning starts, PC already holds the address
after the instruction (R120), called `next` by the spec.

How the thirteen modes appear: Implied is `execImplied`; Accumulator is `execAccumulator`; Immediate is `execImmediate`;
the eight modes that yield an operand address are `MemMode`; Absolute of JMP and JSR is the address itself; Indirect is
`execJumpIndirect`; Relative is `branchTarget`. -/

namespace Sys2Proof.Machine

/-- The modes that yield the address of an operand, with their operand bytes. -/
inductive MemMode where
  /-- ZeroPage (R144) -/
  | zp (b : Byte)
  /-- ZeroPageX (R145) -/
  | zpx (b : Byte)
  /-- ZeroPageY (R146) -/
  | zpy (b : Byte)
  /-- Absolute (R147) -/
  | abs (w : Word)
  /-- AbsoluteX (R148) -/
  | absx (w : Word)
  /-- AbsoluteY (R149) -/
  | absy (w : Word)
  /-- IndirectPreX (R151) -/
  | indx (b : Byte)
  /-- IndirectPostY (R152) -/
  | indy (b : Byte)
deriving DecidableEq, Repr

/-- The 16-bit pointer at page-zero address `b`: low byte at `b`, high byte at `(b + 1) & 0xFF` (R151, R152). Page zero is
RAM (20_memory.md R74), so its two bus reads are RAM reads without side effects (log 10). -/
def zeroPagePointer (b : Byte) (s : State) : Word :=
  mkWord (s.ram.read (b + 1).toNat) (s.ram.read b.toNat)

/-- The effective address of a mode (R144 to R152). -/
def MemMode.ea (m : MemMode) (s : State) : Word :=
  match m with
  | .zp b => zext16 b
  | .zpx b => zext16 (b + s.x)
  | .zpy b => zext16 (b + s.y)
  | .abs w => w
  | .absx w => w + zext16 s.x
  | .absy w => w + zext16 s.y
  | .indx b => zeroPagePointer (b + s.x) s
  | .indy b => zeroPagePointer b s + zext16 s.y

/-- `crossed` (R154): the base and the effective address differ in bits 15:8. -/
def MemMode.crossed (m : MemMode) (s : State) : Bool :=
  match m with
  | .zp _ => false
  | .zpx _ => false
  | .zpy _ => false
  | .abs _ => false
  | .absx w => pagesDiffer w (w + zext16 s.x)
  | .absy w => pagesDiffer w (w + zext16 s.y)
  | .indx _ => false
  | .indy b => pagesDiffer (zeroPagePointer b s) (zeroPagePointer b s + zext16 s.y)

/-- The target of a branch from the address after it (R153). -/
def branchTarget (d : Byte) (next : Word) : Word := next + sext16 d

/-- The page-cross part of `Extra` (R450). -/
def crossCycles (i : Instr) (crossed : Bool) (cfg : Config) : Nat :=
  if pageCrossMark i && crossed && cfg.pageCrossPenalty then 1 else 0

/-- The branch part of `Extra` (R450). -/
def branchCycles (taken crossed : Bool) (cfg : Config) : Nat :=
  if taken then (if crossed && cfg.pageCrossPenalty then 2 else 1) else 0

/-- An instruction that completes: the step's cost is `base + Extra + dma_stall` (R120). -/
def finish (i : Instr) (extra : Nat) (s : State) : Host.Outcome State Fault Refusal :=
  .next (s.setCyc (baseCycles i + extra + s.dmaStall))

/-- An instruction whose access raised a fatal error (60_exceptions.md R400, R402): the machine halts in the state at the
raise point, and records the instruction's opcode and its address, `next` less its length. -/
def raiseIo (i : Instr) (next : Word) (x : IoError) (s : State) : Host.Outcome State Fault Refusal :=
  .next (s.halt (.unrecognizedIoAccess x.addr x.dir (some (opcodeOf i)) (next - BitVec.ofNat 16 i.length)))

/-- The shape of an instruction on registers and the stack alone. -/
def execImplied (i : Instr) (f : State → State) (s : State) : Host.Outcome State Fault Refusal := finish i 0 (f s)

/-- The shape of an instruction that uses an immediate value. -/
def execImmediate (i : Instr) (v : Byte) (f : Byte → State → State) (s : State) : Host.Outcome State Fault Refusal :=
  finish i 0 (f v s)

/-- The shape of an instruction that reads its operand: one bus read at the effective address (R155). -/
def execRead (i : Instr) (m : MemMode) (f : Byte → State → State) (s : State) : Host.Outcome State Fault Refusal :=
  match busRead (m.ea s) s with
  | .ok v t => finish i (crossCycles i (m.crossed s) t.cfg) (f v t)
  | .fatal x t => raiseIo i s.pc x t

/-- The shape of a store: one bus write, and the target is not read (20_memory.md R82). -/
def execStore (i : Instr) (m : MemMode) (v : Byte) (s : State) : Host.Outcome State Fault Refusal :=
  match busWrite (m.ea s) v s with
  | .ok _ t => finish i (crossCycles i (m.crossed s) t.cfg) t
  | .fatal x t => raiseIo i s.pc x t

/-- The shape of a read-modify-write instruction: one read, the carry, one write of the result, then N and Z (R82, R155;
44_shift_rotate.md R220). -/
def execModify (i : Instr) (m : MemMode) (f : Byte → Byte → Byte × Byte) (s : State) :
    Host.Outcome State Fault Refusal :=
  match busRead (m.ea s) s with
  | .fatal x t => raiseIo i s.pc x t
  | .ok v t =>
    match busWrite (m.ea s) (f v t.p).1 (t.setP (f v t.p).2) with
    | .fatal x u => raiseIo i s.pc x u
    | .ok _ u => finish i (crossCycles i (m.crossed s) u.cfg) (u.setP (setNZ (f v t.p).1 u.p))

/-- The shape of a shift or rotate of the accumulator. -/
def execAccumulator (i : Instr) (f : Byte → Byte → Byte × Byte) (s : State) : Host.Outcome State Fault Refusal :=
  finish i 0 ((s.setA (f s.a s.p).1).setP (setNZ (f s.a s.p).1 (f s.a s.p).2))

/-- `Branch(cond)` (45_control_flow.md R240). -/
def execBranch (i : Instr) (d : Byte) (cond : Bool) (s : State) : Host.Outcome State Fault Refusal :=
  let t := branchTarget d s.pc
  finish i (branchCycles cond (pagesDiffer s.pc t) s.cfg) (if cond then s.setPc t else s)

/-- The address of the high byte of a JMP pointer: on the same page as the low byte (R150). -/
def pointerHighAddress (w : Word) : Word := (w &&& 0xFF00#16) ||| ((w + 1) &&& 0x00FF#16)

/-- The shape of a jump through a pointer (R150). -/
def execJumpIndirect (i : Instr) (w : Word) (s : State) : Host.Outcome State Fault Refusal :=
  match busRead w s with
  | .fatal x t => raiseIo i s.pc x t
  | .ok lo t =>
    match busRead (pointerHighAddress w) t with
    | .fatal x u => raiseIo i s.pc x u
    | .ok hi u => finish i 0 (u.setPc (mkWord hi lo))

end Sys2Proof.Machine
end

