-- ==== Sys2Proof/Machine/Arithmetic.lean ====
section
/-! DEFINITION. Arithmetic, logic, compare, increment and decrement (43_arithmetic_logic.md R191 to R206). -/

namespace Sys2Proof.Machine

/-- ADC on its value (R191); D is ignored (00_scope.md R3). -/
def adcOp (m : Byte) (s : State) : State := (s.setA (adcResult s.a m s.p)).setP (adcFlags s.a m s.p)

/-- ADC Immediate (R191, R143). -/
def execAdcImm (v : Byte) (s : State) : Host.Outcome State Fault Refusal := execImmediate (.adcImm v) v adcOp s

/-- ADC ZeroPage (R191, R144). -/
def execAdcZp (b : Byte) (s : State) : Host.Outcome State Fault Refusal := execRead (.adcZp b) (.zp b) adcOp s

/-- ADC ZeroPageX (R191, R145). -/
def execAdcZpx (b : Byte) (s : State) : Host.Outcome State Fault Refusal := execRead (.adcZpx b) (.zpx b) adcOp s

/-- ADC Absolute (R191, R147). -/
def execAdcAbs (w : Word) (s : State) : Host.Outcome State Fault Refusal := execRead (.adcAbs w) (.abs w) adcOp s

/-- ADC AbsoluteX (R191, R148). -/
def execAdcAbsx (w : Word) (s : State) : Host.Outcome State Fault Refusal := execRead (.adcAbsx w) (.absx w) adcOp s

/-- ADC AbsoluteY (R191, R149). -/
def execAdcAbsy (w : Word) (s : State) : Host.Outcome State Fault Refusal := execRead (.adcAbsy w) (.absy w) adcOp s

/-- ADC IndirectPreX (R191, R151). -/
def execAdcIndx (b : Byte) (s : State) : Host.Outcome State Fault Refusal := execRead (.adcIndx b) (.indx b) adcOp s

/-- ADC IndirectPostY (R191, R152). -/
def execAdcIndy (b : Byte) (s : State) : Host.Outcome State Fault Refusal := execRead (.adcIndy b) (.indy b) adcOp s

/-- SBC on its value (R192); D is ignored (00_scope.md R3). -/
def sbcOp (m : Byte) (s : State) : State := (s.setA (sbcResult s.a m s.p)).setP (sbcFlags s.a m s.p)

/-- SBC Immediate (R192, R143). -/
def execSbcImm (v : Byte) (s : State) : Host.Outcome State Fault Refusal := execImmediate (.sbcImm v) v sbcOp s

/-- SBC ZeroPage (R192, R144). -/
def execSbcZp (b : Byte) (s : State) : Host.Outcome State Fault Refusal := execRead (.sbcZp b) (.zp b) sbcOp s

/-- SBC ZeroPageX (R192, R145). -/
def execSbcZpx (b : Byte) (s : State) : Host.Outcome State Fault Refusal := execRead (.sbcZpx b) (.zpx b) sbcOp s

/-- SBC Absolute (R192, R147). -/
def execSbcAbs (w : Word) (s : State) : Host.Outcome State Fault Refusal := execRead (.sbcAbs w) (.abs w) sbcOp s

/-- SBC AbsoluteX (R192, R148). -/
def execSbcAbsx (w : Word) (s : State) : Host.Outcome State Fault Refusal := execRead (.sbcAbsx w) (.absx w) sbcOp s

/-- SBC AbsoluteY (R192, R149). -/
def execSbcAbsy (w : Word) (s : State) : Host.Outcome State Fault Refusal := execRead (.sbcAbsy w) (.absy w) sbcOp s

/-- SBC IndirectPreX (R192, R151). -/
def execSbcIndx (b : Byte) (s : State) : Host.Outcome State Fault Refusal := execRead (.sbcIndx b) (.indx b) sbcOp s

/-- SBC IndirectPostY (R192, R152). -/
def execSbcIndy (b : Byte) (s : State) : Host.Outcome State Fault Refusal := execRead (.sbcIndy b) (.indy b) sbcOp s

/-- AND on its value (R193). -/
def andOp (m : Byte) (s : State) : State := (s.setA (s.a &&& m)).setP (setNZ (s.a &&& m) s.p)

/-- AND Immediate (R193, R143). -/
def execAndImm (v : Byte) (s : State) : Host.Outcome State Fault Refusal := execImmediate (.andImm v) v andOp s

/-- AND ZeroPage (R193, R144). -/
def execAndZp (b : Byte) (s : State) : Host.Outcome State Fault Refusal := execRead (.andZp b) (.zp b) andOp s

/-- AND ZeroPageX (R193, R145). -/
def execAndZpx (b : Byte) (s : State) : Host.Outcome State Fault Refusal := execRead (.andZpx b) (.zpx b) andOp s

/-- AND Absolute (R193, R147). -/
def execAndAbs (w : Word) (s : State) : Host.Outcome State Fault Refusal := execRead (.andAbs w) (.abs w) andOp s

/-- AND AbsoluteX (R193, R148). -/
def execAndAbsx (w : Word) (s : State) : Host.Outcome State Fault Refusal := execRead (.andAbsx w) (.absx w) andOp s

/-- AND AbsoluteY (R193, R149). -/
def execAndAbsy (w : Word) (s : State) : Host.Outcome State Fault Refusal := execRead (.andAbsy w) (.absy w) andOp s

/-- AND IndirectPreX (R193, R151). -/
def execAndIndx (b : Byte) (s : State) : Host.Outcome State Fault Refusal := execRead (.andIndx b) (.indx b) andOp s

/-- AND IndirectPostY (R193, R152). -/
def execAndIndy (b : Byte) (s : State) : Host.Outcome State Fault Refusal := execRead (.andIndy b) (.indy b) andOp s

/-- ORA on its value (R194). -/
def oraOp (m : Byte) (s : State) : State := (s.setA (s.a ||| m)).setP (setNZ (s.a ||| m) s.p)

/-- ORA Immediate (R194, R143). -/
def execOraImm (v : Byte) (s : State) : Host.Outcome State Fault Refusal := execImmediate (.oraImm v) v oraOp s

/-- ORA ZeroPage (R194, R144). -/
def execOraZp (b : Byte) (s : State) : Host.Outcome State Fault Refusal := execRead (.oraZp b) (.zp b) oraOp s

/-- ORA ZeroPageX (R194, R145). -/
def execOraZpx (b : Byte) (s : State) : Host.Outcome State Fault Refusal := execRead (.oraZpx b) (.zpx b) oraOp s

/-- ORA Absolute (R194, R147). -/
def execOraAbs (w : Word) (s : State) : Host.Outcome State Fault Refusal := execRead (.oraAbs w) (.abs w) oraOp s

/-- ORA AbsoluteX (R194, R148). -/
def execOraAbsx (w : Word) (s : State) : Host.Outcome State Fault Refusal := execRead (.oraAbsx w) (.absx w) oraOp s

/-- ORA AbsoluteY (R194, R149). -/
def execOraAbsy (w : Word) (s : State) : Host.Outcome State Fault Refusal := execRead (.oraAbsy w) (.absy w) oraOp s

/-- ORA IndirectPreX (R194, R151). -/
def execOraIndx (b : Byte) (s : State) : Host.Outcome State Fault Refusal := execRead (.oraIndx b) (.indx b) oraOp s

/-- ORA IndirectPostY (R194, R152). -/
def execOraIndy (b : Byte) (s : State) : Host.Outcome State Fault Refusal := execRead (.oraIndy b) (.indy b) oraOp s

/-- EOR on its value (R195). -/
def eorOp (m : Byte) (s : State) : State := (s.setA (s.a ^^^ m)).setP (setNZ (s.a ^^^ m) s.p)

/-- EOR Immediate (R195, R143). -/
def execEorImm (v : Byte) (s : State) : Host.Outcome State Fault Refusal := execImmediate (.eorImm v) v eorOp s

/-- EOR ZeroPage (R195, R144). -/
def execEorZp (b : Byte) (s : State) : Host.Outcome State Fault Refusal := execRead (.eorZp b) (.zp b) eorOp s

/-- EOR ZeroPageX (R195, R145). -/
def execEorZpx (b : Byte) (s : State) : Host.Outcome State Fault Refusal := execRead (.eorZpx b) (.zpx b) eorOp s

/-- EOR Absolute (R195, R147). -/
def execEorAbs (w : Word) (s : State) : Host.Outcome State Fault Refusal := execRead (.eorAbs w) (.abs w) eorOp s

/-- EOR AbsoluteX (R195, R148). -/
def execEorAbsx (w : Word) (s : State) : Host.Outcome State Fault Refusal := execRead (.eorAbsx w) (.absx w) eorOp s

/-- EOR AbsoluteY (R195, R149). -/
def execEorAbsy (w : Word) (s : State) : Host.Outcome State Fault Refusal := execRead (.eorAbsy w) (.absy w) eorOp s

/-- EOR IndirectPreX (R195, R151). -/
def execEorIndx (b : Byte) (s : State) : Host.Outcome State Fault Refusal := execRead (.eorIndx b) (.indx b) eorOp s

/-- EOR IndirectPostY (R195, R152). -/
def execEorIndy (b : Byte) (s : State) : Host.Outcome State Fault Refusal := execRead (.eorIndy b) (.indy b) eorOp s

/-- BIT on its value (R196): A is unchanged. -/
def bitOp (m : Byte) (s : State) : State := s.setP (bitFlags s.a m s.p)

/-- BIT ZeroPage (R196, R144). -/
def execBitZp (b : Byte) (s : State) : Host.Outcome State Fault Refusal := execRead (.bitZp b) (.zp b) bitOp s

/-- BIT Absolute (R196, R147). -/
def execBitAbs (w : Word) (s : State) : Host.Outcome State Fault Refusal := execRead (.bitAbs w) (.abs w) bitOp s

/-- CMP on its value (R198). -/
def cmpOp (m : Byte) (s : State) : State := s.setP (compareFlags s.a m s.p)

/-- CMP Immediate (R198, R143). -/
def execCmpImm (v : Byte) (s : State) : Host.Outcome State Fault Refusal := execImmediate (.cmpImm v) v cmpOp s

/-- CMP ZeroPage (R198, R144). -/
def execCmpZp (b : Byte) (s : State) : Host.Outcome State Fault Refusal := execRead (.cmpZp b) (.zp b) cmpOp s

/-- CMP ZeroPageX (R198, R145). -/
def execCmpZpx (b : Byte) (s : State) : Host.Outcome State Fault Refusal := execRead (.cmpZpx b) (.zpx b) cmpOp s

/-- CMP Absolute (R198, R147). -/
def execCmpAbs (w : Word) (s : State) : Host.Outcome State Fault Refusal := execRead (.cmpAbs w) (.abs w) cmpOp s

/-- CMP AbsoluteX (R198, R148). -/
def execCmpAbsx (w : Word) (s : State) : Host.Outcome State Fault Refusal := execRead (.cmpAbsx w) (.absx w) cmpOp s

/-- CMP AbsoluteY (R198, R149). -/
def execCmpAbsy (w : Word) (s : State) : Host.Outcome State Fault Refusal := execRead (.cmpAbsy w) (.absy w) cmpOp s

/-- CMP IndirectPreX (R198, R151). -/
def execCmpIndx (b : Byte) (s : State) : Host.Outcome State Fault Refusal := execRead (.cmpIndx b) (.indx b) cmpOp s

/-- CMP IndirectPostY (R198, R152). -/
def execCmpIndy (b : Byte) (s : State) : Host.Outcome State Fault Refusal := execRead (.cmpIndy b) (.indy b) cmpOp s

/-- CPX on its value (R199). -/
def cpxOp (m : Byte) (s : State) : State := s.setP (compareFlags s.x m s.p)

/-- CPX Immediate (R199, R143). -/
def execCpxImm (v : Byte) (s : State) : Host.Outcome State Fault Refusal := execImmediate (.cpxImm v) v cpxOp s

/-- CPX ZeroPage (R199, R144). -/
def execCpxZp (b : Byte) (s : State) : Host.Outcome State Fault Refusal := execRead (.cpxZp b) (.zp b) cpxOp s

/-- CPX Absolute (R199, R147). -/
def execCpxAbs (w : Word) (s : State) : Host.Outcome State Fault Refusal := execRead (.cpxAbs w) (.abs w) cpxOp s

/-- CPY on its value (R200). -/
def cpyOp (m : Byte) (s : State) : State := s.setP (compareFlags s.y m s.p)

/-- CPY Immediate (R200, R143). -/
def execCpyImm (v : Byte) (s : State) : Host.Outcome State Fault Refusal := execImmediate (.cpyImm v) v cpyOp s

/-- CPY ZeroPage (R200, R144). -/
def execCpyZp (b : Byte) (s : State) : Host.Outcome State Fault Refusal := execRead (.cpyZp b) (.zp b) cpyOp s

/-- CPY Absolute (R200, R147). -/
def execCpyAbs (w : Word) (s : State) : Host.Outcome State Fault Refusal := execRead (.cpyAbs w) (.abs w) cpyOp s

/-- INC ZeroPage (R201, R144). -/
def execIncZp (b : Byte) (s : State) : Host.Outcome State Fault Refusal := execModify (.incZp b) (.zp b) incByte s

/-- INC ZeroPageX (R201, R145). -/
def execIncZpx (b : Byte) (s : State) : Host.Outcome State Fault Refusal := execModify (.incZpx b) (.zpx b) incByte s

/-- INC Absolute (R201, R147). -/
def execIncAbs (w : Word) (s : State) : Host.Outcome State Fault Refusal := execModify (.incAbs w) (.abs w) incByte s

/-- INC AbsoluteX (R201, R148). -/
def execIncAbsx (w : Word) (s : State) : Host.Outcome State Fault Refusal := execModify (.incAbsx w) (.absx w) incByte s

/-- DEC ZeroPage (R202, R144). -/
def execDecZp (b : Byte) (s : State) : Host.Outcome State Fault Refusal := execModify (.decZp b) (.zp b) decByte s

/-- DEC ZeroPageX (R202, R145). -/
def execDecZpx (b : Byte) (s : State) : Host.Outcome State Fault Refusal := execModify (.decZpx b) (.zpx b) decByte s

/-- DEC Absolute (R202, R147). -/
def execDecAbs (w : Word) (s : State) : Host.Outcome State Fault Refusal := execModify (.decAbs w) (.abs w) decByte s

/-- DEC AbsoluteX (R202, R148). -/
def execDecAbsx (w : Word) (s : State) : Host.Outcome State Fault Refusal := execModify (.decAbsx w) (.absx w) decByte s

/-- INX (R203). -/
def inxOp (s : State) : State := (s.setX (s.x + 1)).setP (setNZ (s.x + 1) s.p)

/-- INX Implied (R203, R141). -/
def execInx (s : State) : Host.Outcome State Fault Refusal := execImplied .inx inxOp s

/-- INY (R204). -/
def inyOp (s : State) : State := (s.setY (s.y + 1)).setP (setNZ (s.y + 1) s.p)

/-- INY Implied (R204, R141). -/
def execIny (s : State) : Host.Outcome State Fault Refusal := execImplied .iny inyOp s

/-- DEX (R205). -/
def dexOp (s : State) : State := (s.setX (s.x - 1)).setP (setNZ (s.x - 1) s.p)

/-- DEX Implied (R205, R141). -/
def execDex (s : State) : Host.Outcome State Fault Refusal := execImplied .dex dexOp s

/-- DEY (R206). -/
def deyOp (s : State) : State := (s.setY (s.y - 1)).setP (setNZ (s.y - 1) s.p)

/-- DEY Implied (R206, R141). -/
def execDey (s : State) : Host.Outcome State Fault Refusal := execImplied .dey deyOp s

end Sys2Proof.Machine
end

