-- ==== Sys2Proof/Machine/Branch.lean ====
section
/-! DEFINITION. The conditional branches (45_control_flow.md R240 to R248). -/

namespace Sys2Proof.Machine

/-- BCC Relative (R241, R153). -/
def execBcc (d : Byte) (s : State) : Host.Outcome State Fault Refusal := execBranch (.bcc d) d (!getFlag .c s.p) s

/-- BCS Relative (R242, R153). -/
def execBcs (d : Byte) (s : State) : Host.Outcome State Fault Refusal := execBranch (.bcs d) d (getFlag .c s.p) s

/-- BEQ Relative (R243, R153). -/
def execBeq (d : Byte) (s : State) : Host.Outcome State Fault Refusal := execBranch (.beq d) d (getFlag .z s.p) s

/-- BMI Relative (R244, R153). -/
def execBmi (d : Byte) (s : State) : Host.Outcome State Fault Refusal := execBranch (.bmi d) d (getFlag .n s.p) s

/-- BNE Relative (R245, R153). -/
def execBne (d : Byte) (s : State) : Host.Outcome State Fault Refusal := execBranch (.bne d) d (!getFlag .z s.p) s

/-- BPL Relative (R246, R153). -/
def execBpl (d : Byte) (s : State) : Host.Outcome State Fault Refusal := execBranch (.bpl d) d (!getFlag .n s.p) s

/-- BVC Relative (R247, R153). -/
def execBvc (d : Byte) (s : State) : Host.Outcome State Fault Refusal := execBranch (.bvc d) d (!getFlag .v s.p) s

/-- BVS Relative (R248, R153). -/
def execBvs (d : Byte) (s : State) : Host.Outcome State Fault Refusal := execBranch (.bvs d) d (getFlag .v s.p) s

end Sys2Proof.Machine
end

