-- ==== Sys2Proof/Machine/Control.lean ====
section
/-! DEFINITION. Jumps, subroutine call and return, return from interrupt and BRK (45_control_flow.md R230 to R238). -/

namespace Sys2Proof.Machine

/-- JMP Absolute (R230, R147). -/
def execJmpAbs (w : Word) (s : State) : Host.Outcome State Fault Refusal := finish (.jmpAbs w) 0 (s.setPc w)

/-- JMP Indirect (R230, R150). -/
def execJmpInd (w : Word) (s : State) : Host.Outcome State Fault Refusal := execJumpIndirect (.jmpInd w) w s

/-- JSR (R231): the address of its last byte is pushed. -/
def jsrOp (w : Word) (s : State) : State := (push16 (s.pc - 1) s).setPc w

/-- JSR Absolute (R231, R147). -/
def execJsrAbs (w : Word) (s : State) : Host.Outcome State Fault Refusal := finish (.jsrAbs w) 0 (jsrOp w s)

/-- RTS (R232). -/
def rtsOp (s : State) : State := (pop16 s).2.setPc ((pop16 s).1 + 1)

/-- RTS Implied (R232, R141). -/
def execRts (s : State) : Host.Outcome State Fault Refusal := execImplied .rts rtsOp s

/-- RTI (R233). -/
def rtiOp (s : State) : State := returnFromInterrupt s

/-- RTI Implied (R233, R141). -/
def execRti (s : State) : Host.Outcome State Fault Refusal := execImplied .rti rtiOp s

/-- BRK (R238, 60_exceptions.md R406): not gated by I; the return skips the byte after it. -/
def brkOp (s : State) : State := enterInterrupt (s.pc + 1) (statusForBreak s.p) 0xFFFE#16 s

/-- BRK Implied (R238, R141). -/
def execBrk (s : State) : Host.Outcome State Fault Refusal := execImplied .brk brkOp s

end Sys2Proof.Machine
end

