-- ==== Sys2Proof/Machine/FlagOps.lean ====
section
/-! DEFINITION. Flag instructions and NOP (46_flags_misc.md R250 to R257). -/

namespace Sys2Proof.Machine

/-- CLC (R250). -/
def clcOp (s : State) : State := s.setP (putFlag .c false s.p)

/-- CLC Implied (R250, R141). -/
def execClc (s : State) : Host.Outcome State Fault Refusal := execImplied .clc clcOp s

/-- CLD (R251). -/
def cldOp (s : State) : State := s.setP (putFlag .d false s.p)

/-- CLD Implied (R251, R141). -/
def execCld (s : State) : Host.Outcome State Fault Refusal := execImplied .cld cldOp s

/-- CLI (R252). -/
def cliOp (s : State) : State := s.setP (putFlag .i false s.p)

/-- CLI Implied (R252, R141). -/
def execCli (s : State) : Host.Outcome State Fault Refusal := execImplied .cli cliOp s

/-- CLV (R253). -/
def clvOp (s : State) : State := s.setP (putFlag .v false s.p)

/-- CLV Implied (R253, R141). -/
def execClv (s : State) : Host.Outcome State Fault Refusal := execImplied .clv clvOp s

/-- SEC (R255). -/
def secOp (s : State) : State := s.setP (putFlag .c true s.p)

/-- SEC Implied (R255, R141). -/
def execSec (s : State) : Host.Outcome State Fault Refusal := execImplied .sec secOp s

/-- SED (R256). -/
def sedOp (s : State) : State := s.setP (putFlag .d true s.p)

/-- SED Implied (R256, R141). -/
def execSed (s : State) : Host.Outcome State Fault Refusal := execImplied .sed sedOp s

/-- SEI (R254). -/
def seiOp (s : State) : State := s.setP (putFlag .i true s.p)

/-- SEI Implied (R254, R141). -/
def execSei (s : State) : Host.Outcome State Fault Refusal := execImplied .sei seiOp s

/-- NOP (R257): nothing but the PC, advanced by the fetch, changes. -/
def nopOp (s : State) : State := s

/-- NOP Implied (R257, R141). -/
def execNop (s : State) : Host.Outcome State Fault Refusal := execImplied .nop nopOp s

end Sys2Proof.Machine
end

