-- ==== Sys2Proof/Machine/LoadStore.lean ====
section
/-! DEFINITION. Loads, stores and register transfers (41_load_store_transfer.md R160 to R171). -/

namespace Sys2Proof.Machine

/-- LDA on its value (R160). -/
def ldaOp (v : Byte) (s : State) : State := (s.setA v).setP (setNZ v s.p)

/-- LDA Immediate (R160, R143). -/
def execLdaImm (v : Byte) (s : State) : Host.Outcome State Fault Refusal := execImmediate (.ldaImm v) v ldaOp s

/-- LDA ZeroPage (R160, R144). -/
def execLdaZp (b : Byte) (s : State) : Host.Outcome State Fault Refusal := execRead (.ldaZp b) (.zp b) ldaOp s

/-- LDA ZeroPageX (R160, R145). -/
def execLdaZpx (b : Byte) (s : State) : Host.Outcome State Fault Refusal := execRead (.ldaZpx b) (.zpx b) ldaOp s

/-- LDA Absolute (R160, R147). -/
def execLdaAbs (w : Word) (s : State) : Host.Outcome State Fault Refusal := execRead (.ldaAbs w) (.abs w) ldaOp s

/-- LDA AbsoluteX (R160, R148). -/
def execLdaAbsx (w : Word) (s : State) : Host.Outcome State Fault Refusal := execRead (.ldaAbsx w) (.absx w) ldaOp s

/-- LDA AbsoluteY (R160, R149). -/
def execLdaAbsy (w : Word) (s : State) : Host.Outcome State Fault Refusal := execRead (.ldaAbsy w) (.absy w) ldaOp s

/-- LDA IndirectPreX (R160, R151). -/
def execLdaIndx (b : Byte) (s : State) : Host.Outcome State Fault Refusal := execRead (.ldaIndx b) (.indx b) ldaOp s

/-- LDA IndirectPostY (R160, R152). -/
def execLdaIndy (b : Byte) (s : State) : Host.Outcome State Fault Refusal := execRead (.ldaIndy b) (.indy b) ldaOp s

/-- LDX on its value (R161). -/
def ldxOp (v : Byte) (s : State) : State := (s.setX v).setP (setNZ v s.p)

/-- LDX Immediate (R161, R143). -/
def execLdxImm (v : Byte) (s : State) : Host.Outcome State Fault Refusal := execImmediate (.ldxImm v) v ldxOp s

/-- LDX ZeroPage (R161, R144). -/
def execLdxZp (b : Byte) (s : State) : Host.Outcome State Fault Refusal := execRead (.ldxZp b) (.zp b) ldxOp s

/-- LDX ZeroPageY (R161, R146). -/
def execLdxZpy (b : Byte) (s : State) : Host.Outcome State Fault Refusal := execRead (.ldxZpy b) (.zpy b) ldxOp s

/-- LDX Absolute (R161, R147). -/
def execLdxAbs (w : Word) (s : State) : Host.Outcome State Fault Refusal := execRead (.ldxAbs w) (.abs w) ldxOp s

/-- LDX AbsoluteY (R161, R149). -/
def execLdxAbsy (w : Word) (s : State) : Host.Outcome State Fault Refusal := execRead (.ldxAbsy w) (.absy w) ldxOp s

/-- LDY on its value (R162). -/
def ldyOp (v : Byte) (s : State) : State := (s.setY v).setP (setNZ v s.p)

/-- LDY Immediate (R162, R143). -/
def execLdyImm (v : Byte) (s : State) : Host.Outcome State Fault Refusal := execImmediate (.ldyImm v) v ldyOp s

/-- LDY ZeroPage (R162, R144). -/
def execLdyZp (b : Byte) (s : State) : Host.Outcome State Fault Refusal := execRead (.ldyZp b) (.zp b) ldyOp s

/-- LDY ZeroPageX (R162, R145). -/
def execLdyZpx (b : Byte) (s : State) : Host.Outcome State Fault Refusal := execRead (.ldyZpx b) (.zpx b) ldyOp s

/-- LDY Absolute (R162, R147). -/
def execLdyAbs (w : Word) (s : State) : Host.Outcome State Fault Refusal := execRead (.ldyAbs w) (.abs w) ldyOp s

/-- LDY AbsoluteX (R162, R148). -/
def execLdyAbsx (w : Word) (s : State) : Host.Outcome State Fault Refusal := execRead (.ldyAbsx w) (.absx w) ldyOp s

/-- STA ZeroPage (R163, R144). -/
def execStaZp (b : Byte) (s : State) : Host.Outcome State Fault Refusal := execStore (.staZp b) (.zp b) s.a s

/-- STA ZeroPageX (R163, R145). -/
def execStaZpx (b : Byte) (s : State) : Host.Outcome State Fault Refusal := execStore (.staZpx b) (.zpx b) s.a s

/-- STA Absolute (R163, R147). -/
def execStaAbs (w : Word) (s : State) : Host.Outcome State Fault Refusal := execStore (.staAbs w) (.abs w) s.a s

/-- STA AbsoluteX (R163, R148). -/
def execStaAbsx (w : Word) (s : State) : Host.Outcome State Fault Refusal := execStore (.staAbsx w) (.absx w) s.a s

/-- STA AbsoluteY (R163, R149). -/
def execStaAbsy (w : Word) (s : State) : Host.Outcome State Fault Refusal := execStore (.staAbsy w) (.absy w) s.a s

/-- STA IndirectPreX (R163, R151). -/
def execStaIndx (b : Byte) (s : State) : Host.Outcome State Fault Refusal := execStore (.staIndx b) (.indx b) s.a s

/-- STA IndirectPostY (R163, R152). -/
def execStaIndy (b : Byte) (s : State) : Host.Outcome State Fault Refusal := execStore (.staIndy b) (.indy b) s.a s

/-- STX ZeroPage (R164, R144). -/
def execStxZp (b : Byte) (s : State) : Host.Outcome State Fault Refusal := execStore (.stxZp b) (.zp b) s.x s

/-- STX ZeroPageY (R164, R146). -/
def execStxZpy (b : Byte) (s : State) : Host.Outcome State Fault Refusal := execStore (.stxZpy b) (.zpy b) s.x s

/-- STX Absolute (R164, R147). -/
def execStxAbs (w : Word) (s : State) : Host.Outcome State Fault Refusal := execStore (.stxAbs w) (.abs w) s.x s

/-- STY ZeroPage (R165, R144). -/
def execStyZp (b : Byte) (s : State) : Host.Outcome State Fault Refusal := execStore (.styZp b) (.zp b) s.y s

/-- STY ZeroPageX (R165, R145). -/
def execStyZpx (b : Byte) (s : State) : Host.Outcome State Fault Refusal := execStore (.styZpx b) (.zpx b) s.y s

/-- STY Absolute (R165, R147). -/
def execStyAbs (w : Word) (s : State) : Host.Outcome State Fault Refusal := execStore (.styAbs w) (.abs w) s.y s

/-- TAX (R166). -/
def taxOp (s : State) : State := (s.setX s.a).setP (setNZ s.a s.p)

/-- TAX Implied (R166, R141). -/
def execTax (s : State) : Host.Outcome State Fault Refusal := execImplied .tax taxOp s

/-- TAY (R167). -/
def tayOp (s : State) : State := (s.setY s.a).setP (setNZ s.a s.p)

/-- TAY Implied (R167, R141). -/
def execTay (s : State) : Host.Outcome State Fault Refusal := execImplied .tay tayOp s

/-- TSX (R168). -/
def tsxOp (s : State) : State := (s.setX s.sp).setP (setNZ s.sp s.p)

/-- TSX Implied (R168, R141). -/
def execTsx (s : State) : Host.Outcome State Fault Refusal := execImplied .tsx tsxOp s

/-- TXA (R169). -/
def txaOp (s : State) : State := (s.setA s.x).setP (setNZ s.x s.p)

/-- TXA Implied (R169, R141). -/
def execTxa (s : State) : Host.Outcome State Fault Refusal := execImplied .txa txaOp s

/-- TXS writes no flag (R170). -/
def txsOp (s : State) : State := s.setSp s.x

/-- TXS Implied (R170, R141). -/
def execTxs (s : State) : Host.Outcome State Fault Refusal := execImplied .txs txsOp s

/-- TYA (R171). -/
def tyaOp (s : State) : State := (s.setA s.y).setP (setNZ s.y s.p)

/-- TYA Implied (R171, R141). -/
def execTya (s : State) : Host.Outcome State Fault Refusal := execImplied .tya tyaOp s

end Sys2Proof.Machine
end

