-- ==== Sys2Proof/Machine/Shift.lean ====
section
/-! DEFINITION. Shifts and rotates (44_shift_rotate.md R220 to R223). -/

namespace Sys2Proof.Machine

/-- ASL Accumulator (R220, R142). -/
def execAslAcc (s : State) : Host.Outcome State Fault Refusal := execAccumulator .aslAcc aslByte s

/-- ASL ZeroPage (R220, R144). -/
def execAslZp (b : Byte) (s : State) : Host.Outcome State Fault Refusal := execModify (.aslZp b) (.zp b) aslByte s

/-- ASL ZeroPageX (R220, R145). -/
def execAslZpx (b : Byte) (s : State) : Host.Outcome State Fault Refusal := execModify (.aslZpx b) (.zpx b) aslByte s

/-- ASL Absolute (R220, R147). -/
def execAslAbs (w : Word) (s : State) : Host.Outcome State Fault Refusal := execModify (.aslAbs w) (.abs w) aslByte s

/-- ASL AbsoluteX (R220, R148). -/
def execAslAbsx (w : Word) (s : State) : Host.Outcome State Fault Refusal := execModify (.aslAbsx w) (.absx w) aslByte s

/-- LSR Accumulator (R221, R142). -/
def execLsrAcc (s : State) : Host.Outcome State Fault Refusal := execAccumulator .lsrAcc lsrByte s

/-- LSR ZeroPage (R221, R144). -/
def execLsrZp (b : Byte) (s : State) : Host.Outcome State Fault Refusal := execModify (.lsrZp b) (.zp b) lsrByte s

/-- LSR ZeroPageX (R221, R145). -/
def execLsrZpx (b : Byte) (s : State) : Host.Outcome State Fault Refusal := execModify (.lsrZpx b) (.zpx b) lsrByte s

/-- LSR Absolute (R221, R147). -/
def execLsrAbs (w : Word) (s : State) : Host.Outcome State Fault Refusal := execModify (.lsrAbs w) (.abs w) lsrByte s

/-- LSR AbsoluteX (R221, R148). -/
def execLsrAbsx (w : Word) (s : State) : Host.Outcome State Fault Refusal := execModify (.lsrAbsx w) (.absx w) lsrByte s

/-- ROL Accumulator (R222, R142). -/
def execRolAcc (s : State) : Host.Outcome State Fault Refusal := execAccumulator .rolAcc rolByte s

/-- ROL ZeroPage (R222, R144). -/
def execRolZp (b : Byte) (s : State) : Host.Outcome State Fault Refusal := execModify (.rolZp b) (.zp b) rolByte s

/-- ROL ZeroPageX (R222, R145). -/
def execRolZpx (b : Byte) (s : State) : Host.Outcome State Fault Refusal := execModify (.rolZpx b) (.zpx b) rolByte s

/-- ROL Absolute (R222, R147). -/
def execRolAbs (w : Word) (s : State) : Host.Outcome State Fault Refusal := execModify (.rolAbs w) (.abs w) rolByte s

/-- ROL AbsoluteX (R222, R148). -/
def execRolAbsx (w : Word) (s : State) : Host.Outcome State Fault Refusal := execModify (.rolAbsx w) (.absx w) rolByte s

/-- ROR Accumulator (R223, R142). -/
def execRorAcc (s : State) : Host.Outcome State Fault Refusal := execAccumulator .rorAcc rorByte s

/-- ROR ZeroPage (R223, R144). -/
def execRorZp (b : Byte) (s : State) : Host.Outcome State Fault Refusal := execModify (.rorZp b) (.zp b) rorByte s

/-- ROR ZeroPageX (R223, R145). -/
def execRorZpx (b : Byte) (s : State) : Host.Outcome State Fault Refusal := execModify (.rorZpx b) (.zpx b) rorByte s

/-- ROR Absolute (R223, R147). -/
def execRorAbs (w : Word) (s : State) : Host.Outcome State Fault Refusal := execModify (.rorAbs w) (.abs w) rorByte s

/-- ROR AbsoluteX (R223, R148). -/
def execRorAbsx (w : Word) (s : State) : Host.Outcome State Fault Refusal := execModify (.rorAbsx w) (.absx w) rorByte s

end Sys2Proof.Machine
end

