-- ==== Sys2Proof/Machine/Stack.lean ====
section
/-! DEFINITION. The stack instructions (42_stack.md R182 to R185). -/

namespace Sys2Proof.Machine

/-- PHA (R182). -/
def phaOp (s : State) : State := push s.a s

/-- PHA Implied (R182, R141). -/
def execPha (s : State) : Host.Outcome State Fault Refusal := execImplied .pha phaOp s

/-- PHP (R183): P itself is unchanged. -/
def phpOp (s : State) : State := push (statusForBreak s.p) s

/-- PHP Implied (R183, R141). -/
def execPhp (s : State) : Host.Outcome State Fault Refusal := execImplied .php phpOp s

/-- PLA (R184). -/
def plaOp (s : State) : State := ((pop s).2.setA (pop s).1).setP (setNZ (pop s).1 s.p)

/-- PLA Implied (R184, R141). -/
def execPla (s : State) : Host.Outcome State Fault Refusal := execImplied .pla plaOp s

/-- PLP (R185). -/
def plpOp (s : State) : State := (pop s).2.setP (statusFromStack (pop s).1)

/-- PLP Implied (R185, R141). -/
def execPlp (s : State) : Host.Outcome State Fault Refusal := execImplied .plp plpOp s

end Sys2Proof.Machine
end

