-- ==== Sys2Proof/Machine/Fetch.lean ====
section
/-! DEFINITION. Fetching an instruction's bytes through the bus (30_encoding.md R120; 20_memory.md R103) and placing one
where the next fetch reads it. -/

namespace Sys2Proof.Machine

/-- What a fetch ends in: an instruction and the state in which it executes, or the Halted state of a fatal error. -/
inductive Fetched where
  | instr (i : Instr) (s : State)
  | stopped (s : State)
deriving DecidableEq, Repr

/-- The fetch halted by an access without a handler; the opcode is `none` at the opcode fetch itself (log 6). -/
def fetchHalted (x : IoError) (opcode : Option Byte) (opPc : Word) (s : State) : Fetched :=
  .stopped (s.halt (.unrecognizedIoAccess x.addr x.dir opcode opPc))

/-- The operand bytes after the opcode (R120, R140, R143 to R153), PC at the first of them. -/
def fetchOperands (op : Byte) (opPc : Word) (e : Entry) (s : State) : Fetched :=
  match e with
  | .f1 i => .instr i s
  | .f2 make =>
    match busRead s.pc s with
    | .fatal x t => fetchHalted x (some op) opPc t
    | .ok b1 t => .instr (make b1) (t.setPc (s.pc + 1))
  | .f3 make =>
    match busRead s.pc s with
    | .fatal x t => fetchHalted x (some op) opPc t
    | .ok b1 t =>
      match busRead (s.pc + 1) t with
      | .fatal x u => fetchHalted x (some op) opPc u
      | .ok b2 u => .instr (make (mkWord b2 b1)) (u.setPc (s.pc + 2))

/-- The fetch of `CpuStep` (R120): the opcode, PC past it, an undefined opcode is fatal before any operand byte is read,
`dma_stall` is cleared, then the operand bytes. -/
def fetch (s : State) : Fetched :=
  match busRead s.pc s with
  | .fatal x t => fetchHalted x none s.pc t
  | .ok op t =>
    let u := t.setPc (s.pc + 1)
    match opcodeEntry op with
    | none => .stopped (u.halt (.invalidOpcode op s.pc))
    | some e => fetchOperands op s.pc e (u.setDmaStall 0)

/-- Placing a byte at a CPU address of RAM, SRAM or PRG; elsewhere nothing. Placing into PRG stands for loading the
cartridge (log 4). -/
def placeByte (a : Word) (v : Byte) (s : State) : State :=
  match regionOf a with
  | .ram => s.setRam (s.ram.write (ramIndex a) v)
  | .sram => s.setSram (s.sram.write (sramIndex a) v)
  | .prg => s.setPrg (s.prg.write (prgIndex s.cfg.prgSize a) v)
  | .ppu => s
  | .dma => s
  | .pad => s
  | .io => s
  | .expansion => s

/-- An address that holds what is placed there. -/
def placeable (a : Word) : Bool := regionOf a == .ram || regionOf a == .sram || regionOf a == .prg

/-- Placing bytes at consecutive addresses. -/
def placeBytes : Word → List Byte → State → State
  | _, [], s => s
  | a, v :: rest, s => placeBytes (a + 1) rest (placeByte a v s)

/-- Where an instruction of up to three bytes is placed: at the PC, or at 0x8000 when the PC does not point at three
placeable bytes (log 4). -/
def placeAddress (s : State) : Word :=
  if placeable s.pc && placeable (s.pc + 1) && placeable (s.pc + 2) then s.pc else 0x8000#16

end Sys2Proof.Machine
end

