-- ==== Sys2Proof/Machine/Render.lean ====
section
/-! DEFINITION. The scanline step: tile renderer, OAM scanner and sprite compositor (51_ppu_rendering.md R340 to R366).
A whole line is computed from the PPU as it stands at the `render_scanline` call (R366), so the loops of the spec are
written as lists over the line (log 12). -/

namespace Sys2Proof.Machine

/-- `RenderingEnabled()` (R340, 10_state.md R35): SHOW_BG or SHOW_SPR. -/
def renderingEnabled (p : Ppu) : Bool := bitOf p.mask 3 || bitOf p.mask 4

/-- `Grey(c)` (R349). -/
def grey (mask : Byte) (c : Pixel) : Pixel := if bitOf mask 0 then c &&& 0x30#6 else c

/-- The output pixel of a palette address: `Grey(PpuRead(a) & 0x3F)` (R349, R362). -/
def pixelAt (cfg : Config) (p : Ppu) (a : Word) : Pixel := grey p.mask ((ppuRead cfg p a).extractLsb' 0 6)

/-- `IncHorizontal()` (R346): no carry into VT. -/
def incHorizontal (c : Scroll) : Scroll :=
  let d := { c with ht := c.ht + 1 }
  if d.ht = 0 then { d with h := d.h ^^^ 1 } else d

/-- `IncVertical()` (R347): VT wraps at 30 into V, and 31 wraps without V. -/
def incVertical (c : Scroll) : Scroll :=
  if c.fv = 7 then
    let d := { c with fv := 0 }
    if c.vt = 29 then { d with vt := 0, v := d.v ^^^ 1 }
    else if c.vt = 31 then { d with vt := 0 }
    else { d with vt := c.vt + 1 }
  else { c with fv := c.fv + 1 }

/-- `ReloadHorizontal()` (R348). -/
def reloadHorizontal (r c : Scroll) : Scroll := { c with h := r.h, ht := r.ht }

/-- A background pixel: its value 0 to 3 and its palette number 0 to 3 (R350). -/
abbrev BgPixel := BitVec 2 × BitVec 2

/-- Two bits, `(hi << 1) | lo`. -/
def planes (hi lo : Bool) : BitVec 2 := (if hi then 2#2 else 0#2) ||| (if lo then 1#2 else 0#2)

/-- The eight pixels of the tile at the counters' position, leftmost first (R350, R330 to R333). -/
def tilePixels (cfg : Config) (p : Ppu) (c : Scroll) : List BgPixel :=
  let t := ppuRead cfg p (nametableAddress c)
  let pal := paletteSelectBits c (ppuRead cfg p (attributetableAddress c))
  let lo := ppuRead cfg p (patterntableAddress p.ctrl c t)
  let hi := ppuRead cfg p (patterntableAddress p.ctrl c t + 8)
  (List.range 8).map fun k => (planes (bitOf hi (7 - k)) (bitOf lo (7 - k)), pal)

/-- The pixels of `n` consecutive tiles from the counters' position. -/
def tileRun (cfg : Config) (p : Ppu) : Nat → Scroll → List BgPixel
  | 0, _ => []
  | n + 1, c => tilePixels cfg p c ++ tileRun cfg p n (incHorizontal c)

/-- The counters after `n` tiles (R346, R350). -/
def advanceTiles : Nat → Scroll → Scroll
  | 0, c => c
  | n + 1, c => advanceTiles n (incHorizontal c)

/-- The background is blanked at column `x` (R350): SHOW_BG off, or the leftmost 8 pixels with BG_LEFT off. -/
def bgHidden (mask : Byte) (x : Nat) : Bool := !bitOf mask 3 || (decide (x < 8) && !bitOf mask 1)

/-- The 256 background pixels of `BackgroundLine()` (R350): 33 tiles, shifted left by regFH, then blanked. -/
def backgroundLine (cfg : Config) (p : Ppu) : List BgPixel :=
  (((tileRun cfg p 33 p.cnt).drop p.regFH.toNat).take 256).mapIdx fun x q =>
    if bgHidden p.mask x then (0#2, q.2) else q

/-- A byte of sprite `i`'s OAM entry: 0 is Y, 1 the pattern index, 2 the attribute, 3 X (10_state.md R48). -/
def oamByte (p : Ppu) (i k : Nat) : Byte := p.oam.read (4 * i + k)

/-- Sprite `i` covers screen row `y` (R356): `0 <= y - (oam[4i] + 1) <= 7`. -/
def covers (p : Ppu) (y i : Nat) : Bool :=
  decide ((oamByte p i 0).toNat + 1 ≤ y) && decide (y ≤ (oamByte p i 0).toNat + 8)

/-- The sprites that cover the row, in OAM order. -/
def coveringSprites (p : Ppu) (y : Nat) : List Nat := (List.range 64).filter (covers p y)

/-- `EvaluateSprites(y)` (R356): the first eight. -/
def selectedSprites (p : Ppu) (y : Nat) : List Nat := (coveringSprites p y).take 8

/-- A ninth sprite covers the row (R357). -/
def spriteOverflow (p : Ppu) (y : Nat) : Bool := decide (8 < (coveringSprites p y).length)

/-- `SpritePixel(i, x, y)` (R359) for a sprite that covers row `y`. -/
def spritePixel (cfg : Config) (p : Ppu) (i x y : Nat) : BitVec 2 :=
  let left := (oamByte p i 3).toNat
  if x < left ∨ left + 7 < x then 0#2
  else
    let c := x - left
    let row := y - ((oamByte p i 0).toNat + 1)
    let at' := oamByte p i 2
    let r := if bitOf at' 7 then 7 - row else row
    let base : Word :=
      ((if bitOf p.ctrl 3 then 1#16 else 0#16) <<< 12) ||| ((oamByte p i 1).setWidth 16 <<< 4) ||| BitVec.ofNat 16 r
    let b := if bitOf at' 6 then c else 7 - c
    planes (bitOf (ppuRead cfg p (base + 8)) b) (bitOf (ppuRead cfg p base) b)

/-- Sprites are shown at column `x` (R362): SHOW_SPR, and SPR_LEFT in the leftmost 8 pixels. -/
def spritesShown (mask : Byte) (x : Nat) : Bool := bitOf mask 4 && !(decide (x < 8) && !bitOf mask 2)

/-- The winning sprite at a pixel (R362, R363): the first selected sprite whose pixel is opaque. -/
def winningSprite (cfg : Config) (p : Ppu) (sel : List Nat) (x y : Nat) : Option Nat :=
  if spritesShown p.mask x then sel.find? fun i => spritePixel cfg p i x y != 0#2 else none

/-- The pixel sets SPR0_HIT (R362, R365): sprite 0 wins over an opaque background pixel at x from 0 to 254. -/
def hitsSprite0 (p : Ppu) (winner : Option Nat) (bg : BgPixel) (x : Nat) : Bool :=
  (winner == some 0) && (bg.1 != 0#2) && bitOf p.mask 3 && (x != 255)

/-- The palette address a pixel shows (R362, R351). -/
def pixelAddress (cfg : Config) (p : Ppu) (winner : Option Nat) (bg : BgPixel) (x y : Nat) : Word :=
  let background : Word :=
    if bg.1 != 0#2 then 0x3F00#16 + 4#16 * bg.2.setWidth 16 + bg.1.setWidth 16 else 0x3F00#16
  match winner with
  | some i =>
    if !bitOf (oamByte p i 2) 5 || bg.1 == 0#2 then
      0x3F10#16 + 4#16 * ((oamByte p i 2).extractLsb' 0 2).setWidth 16 + (spritePixel cfg p i x y).setWidth 16
    else background
  | none => background

/-- `ComposePixel` (R362): the colour index. -/
def composePixel (cfg : Config) (p : Ppu) (sel : List Nat) (bg : BgPixel) (x y : Nat) : Pixel :=
  pixelAt cfg p (pixelAddress cfg p (winningSprite cfg p sel x y) bg x y)

/-- The 256 pixels of row `y` (R345, R362). -/
def renderRow (cfg : Config) (p : Ppu) (y : Nat) : List Pixel :=
  (backgroundLine cfg p).mapIdx fun x bg => composePixel cfg p (selectedSprites p y) bg x y

/-- Some pixel of row `y` sets SPR0_HIT (R365). -/
def rowHitsSprite0 (cfg : Config) (p : Ppu) (y : Nat) : Bool :=
  ((backgroundLine cfg p).mapIdx fun x bg =>
    hitsSprite0 p (winningSprite cfg p (selectedSprites p y) x y) bg x).any id

/-- `RenderLine(y)` (R345) when 8x16 sprites are off: pixels and flags, then the vertical increment, then the
horizontal reload. -/
def renderLine (cfg : Config) (p : Ppu) (y : Nat) : Ppu :=
  { p with
    sprOvf := p.sprOvf || spriteOverflow p y
    spr0Hit := p.spr0Hit || rowHitsSprite0 cfg p y
    frame := insertKey y (renderRow cfg p y) p.frame
    cnt := reloadHorizontal p.reg (incVertical (advanceTiles 33 p.cnt)) }

/-- `BlankLine(y)` (R349). -/
def blankLine (cfg : Config) (p : Ppu) (y : Nat) : Ppu :=
  { p with frame := insertKey y (List.replicate 256 (pixelAt cfg p 0x3F00#16)) p.frame }

/-- What a scanline step ends in: the PPU and whether a vblank NMI is requested, or the fatal error of R361. -/
inductive LineOutcome where
  | done (p : Ppu) (nmi : Bool)
  | fatal
deriving DecidableEq, Repr

/-- `render_scanline(l)` (R340 to R344, R361). -/
def renderScanline (cfg : Config) (l : Nat) (p : Ppu) : LineOutcome :=
  if l = 0 then .done { p with spr0Hit := false, sprOvf := false } false
  else if l = 20 then
    .done { p with vblank := false, cnt := if renderingEnabled p then p.reg else p.cnt } false
  else if l = 261 then .done { p with vblank := true } (bitOf p.ctrl 7)
  else if 21 ≤ l ∧ l ≤ 260 then
    if renderingEnabled p then
      if bitOf p.ctrl 5 then .fatal else .done (renderLine cfg p (l - 21)) false
    else .done (blankLine cfg p (l - 21)) false
  else .done p false

end Sys2Proof.Machine
end

