-- ==== Sys2Proof/Machine/Scheduler.lean ====
section
/-! DEFINITION. The frame scheduler: the scanlines an instruction completes and the vblank NMI (53_frame_scheduler.md R391
to R394; 60_exceptions.md R403, R404, R411). -/

namespace Sys2Proof.Machine

/-- One turn of the loop of R391: charge a scanline, render it, and enter the NMI if it is requested and not gated. -/
def renderOneLine (s : State) : State :=
  let t := s.setSched { s.sched with acc := s.sched.acc - s.cfg.cyclesPerScanline }
  match renderScanline s.cfg s.sched.line.val s.ppu with
  | .fatal => t.halt (.unimplementedAddressingEdgeCase s.sched.line.val)
  | .done p nmi =>
    let u := (t.setPpu p).setSched { line := s.sched.line + 1, acc := t.sched.acc }
    if nmi then
      let r := nmiRequest u
      r.1.setSched { r.1.sched with acc := r.1.sched.acc + r.2 }
    else u

/-- The loop of R391 with at most `fuel` turns: it stops when the machine is Halted or less than a scanline is left. -/
def renderLines : Nat → State → State
  | 0, s => s
  | fuel + 1, s =>
    if s.run = .running ∧ s.cfg.cyclesPerScanline ≤ s.sched.acc then renderLines fuel (renderOneLine s) else s

/-- Enough turns for any `acc` (log 8): each charges at least one cycle, and at most one NMI adds `nmiCycles`. -/
def lineFuel (s : State) : Nat := s.sched.acc + nmiCycles + 1

/-- The part of `SystemStep` after the CPU step (R391): the step's cost is added, then the completed scanlines run. A CPU
step that halted ends the system step. -/
def chargeCycles (s : State) : State :=
  if s.run = .running then
    let t := s.setSched { s.sched with acc := s.sched.acc + s.cyc }
    renderLines (lineFuel t) t
  else s

end Sys2Proof.Machine
end

