-- ==== Sys2Proof/Machine/Step.lean ====
section
/-! DEFINITION. One step of the machine: `SystemStep` (53_frame_scheduler.md R391). -/

namespace Sys2Proof.Machine

/-- `CpuStep` (30_encoding.md R120): fetch and execute one instruction; a fatal fetch leaves the Halted state. -/
def cpuStep (s : State) : Host.Outcome State Fault Refusal :=
  match fetch s with
  | .instr i t => exec i t
  | .stopped t => .next t

/-- `SystemStep` (R391): one CPU step, then the scanlines it completes. A Halted machine takes no step (R33, R402). -/
def step (s : State) : Host.Outcome State Fault Refusal :=
  match s.run with
  | .halted e => .fault (.halted e)
  | .running =>
    match cpuStep s with
    | .next t => .next (chargeCycles t)
    | .fault r => .fault r
    | .refused r => .refused r

/-- The state with an instruction stored where `step` fetches next (log 4): the bytes are placed at the PC (or at 0x8000
with the PC moved there), and the machine is Running. -/
def State.withFetchWord (s : State) (nbits w : Nat) : State :=
  (placeBytes (placeAddress s) (tableBytes nbits w) (s.setPc (placeAddress s))).setRun .running

end Sys2Proof.Machine
end

