-- ==== Sys2Proof/Machine/HostInterface.lean ====
section
/-! DEFINITION. What the host does between system steps (53_frame_scheduler.md R396): reset request, key down and up,
reading the frame. Power-on is `State.powerOn`, a step is `step` (log 13). -/

namespace Sys2Proof.Machine

/-- The eight buttons (10_state.md R50). -/
inductive Button where
  | a
  | b
  | select
  | start
  | up
  | down
  | left
  | right
deriving DecidableEq, Repr

/-- The fixed order of R50. -/
def Button.index : Button → Fin 8
  | .a => 0
  | .b => 1
  | .select => 2
  | .start => 3
  | .up => 4
  | .down => 5
  | .left => 6
  | .right => 7

/-- A host reset request (70_reset_and_hazards.md R431, R432): a CPU reset only, refused on a Halted machine. -/
def hostReset (s : State) : Host.Outcome State Fault Refusal :=
  match s.run with
  | .running => .next (resetCpu s)
  | .halted _ => .refused .resetWhenHalted

/-- Setting one button. -/
def setButton (k : Button) (down : Bool) (s : State) : State :=
  s.setPad { s.pad with buttons := s.pad.buttons.set k.index.val down k.index.isLt }

/-- `record_key_down` (52_controller.md R386), after the host's key mapping. -/
def keyDown (k : Button) (s : State) : State := setButton k true s

/-- `record_key_up` (R386). -/
def keyUp (k : Button) (s : State) : State := setButton k false s

/-- The host reads a pixel of the frame; `none` is a pixel not written yet (10_state.md R49, log 11). -/
def readPixel (s : State) (row col : Nat) : Option Pixel :=
  match lookupKey row s.ppu.frame with
  | some pixels => pixels[col]?
  | none => none

end Sys2Proof.Machine
end

