-- ==== Sys2Proof/Safety.lean ====
section
/-! DEFINITION. The terms claims are stated in: the invariant of the machine, reading a byte without a side effect, and
what it means for one form of an instruction to run as its rule says. -/

namespace Sys2Proof.Machine

/-! ## The invariant -/

/-- The status register at an instruction boundary: U is 1 and B is 0 (10_state.md R32). -/
def statusOk (p : Byte) : Bool := p &&& 0x30 == 0x20

/-- The PPU memories are canonical and inside their sizes (R45 to R48). -/
def ppuMemoryOk (p : Ppu) : Bool :=
  p.ciram.wf && p.ciram.fits 2048 && p.palette.wf && p.palette.fits 32 && p.chr.wf && p.chr.fits 8192 &&
    p.oam.wf && p.oam.fits 256

/-- Every memory is canonical and inside its size (R42 to R48). -/
def memoryOk (s : State) : Bool :=
  s.ram.wf && s.ram.fits 2048 && s.sram.wf && s.sram.fits 8192 && s.prg.wf && s.prg.fits (prgLength s.cfg.prgSize) &&
    ppuMemoryOk s.ppu

/-- The frame holds rows 0 to 239 in rising order, each of 256 pixels (R49). -/
def frameOk (f : Frame) : Bool := keysRise f && f.all fun r => decide (r.1 < 240) && r.2.length == 256

/-- On a Running machine less than a scanline's worth of cycles is uncharged (53_frame_scheduler.md R391). -/
def schedOk (s : State) : Bool :=
  match s.run with
  | .running => decide (s.sched.acc < s.cfg.cyclesPerScanline)
  | .halted _ => true

/-- The invariant every step keeps. -/
def State.inv (s : State) : Bool :=
  statusOk s.p && memoryOk s && frameOk s.ppu.frame && schedOk s && s.cfg.wf

/-! ## Reading memory without a side effect -/

/-- The byte a CPU address reads as, where reading has no side effect (20_memory.md R79); `none` at the PPU registers and
the controller port. -/
def peek (s : State) (a : Word) : Option Byte :=
  match regionOf a with
  | .ram => some (s.ram.read (ramIndex a))
  | .ppu => none
  | .dma => some 0x00
  | .pad => none
  | .io => some 0x00
  | .expansion => some 0x00
  | .sram => some (s.sram.read (sramIndex a))
  | .prg => some (s.prgByte a)

/-- The bytes at consecutive addresses, all readable without a side effect, are the given ones. -/
def holdsBytes (s : State) : Word → List Byte → Bool
  | _, [] => true
  | a, v :: rest => (peek s a == some v) && holdsBytes s (a + 1) rest

/-- `n` bus reads at consecutive addresses, in order, with whatever side effects they have: the bytes and the state after
them, or the first fatal access (20_memory.md R103, 30_encoding.md R120). -/
def fetchBytes : Word → Nat → State → Access (List Byte)
  | _, 0, s => .ok [] s
  | a, n + 1, s =>
    match busRead a s with
    | .fatal x t => .fatal x t
    | .ok v t =>
      match fetchBytes (a + 1) n t with
      | .fatal x u => .fatal x u
      | .ok rest u => .ok (v :: rest) u

/-- Two CPU addresses name the same writable byte (R74, R77). -/
def sameCell (a b : Word) : Bool :=
  (regionOf a == .ram && regionOf b == .ram && ramIndex a == ramIndex b) ||
    (regionOf a == .sram && regionOf b == .sram && a == b)

/-- The CPU and the PPU memories of two states hold the same bytes. -/
def sameMemory (s t : State) : Prop :=
  (∀ a, peek t a = peek s a) ∧ (∀ a, ppuRead t.cfg t.ppu a = ppuRead s.cfg s.ppu a) ∧
    (∀ i, t.ppu.oam.read i = s.ppu.oam.read i)

/-! ## What a form of an instruction does -/

/-- How a row of the opcode table reaches its operand (30_encoding.md R125; 40_addressing_modes.md R155). -/
inductive Shape where
  /-- registers, the stack, or an absolute jump: no operand in memory -/
  | plain
  /-- the operand is A (R142) -/
  | accumulator
  /-- the operand is the byte after the opcode (R143) -/
  | immediate
  /-- one bus read of the operand -/
  | read (m : MemMode)
  /-- one bus write to the operand -/
  | store (m : MemMode)
  /-- one bus read, then one bus write of the operand -/
  | modify (m : MemMode)
  /-- a branch with its displacement (R153) -/
  | branch (d : Byte)
  /-- the pointer of JMP Indirect (R150) -/
  | jumpIndirect (w : Word)
deriving DecidableEq, Repr

/-- The shape of every row. -/
def shapeOf : Instr → Shape
  | .ldaImm _ => .immediate
  | .ldaZp b => .read (.zp b)
  | .ldaZpx b => .read (.zpx b)
  | .ldaAbs w => .read (.abs w)
  | .ldaAbsx w => .read (.absx w)
  | .ldaAbsy w => .read (.absy w)
  | .ldaIndx b => .read (.indx b)
  | .ldaIndy b => .read (.indy b)
  | .ldxImm _ => .immediate
  | .ldxZp b => .read (.zp b)
  | .ldxZpy b => .read (.zpy b)
  | .ldxAbs w => .read (.abs w)
  | .ldxAbsy w => .read (.absy w)
  | .ldyImm _ => .immediate
  | .ldyZp b => .read (.zp b)
  | .ldyZpx b => .read (.zpx b)
  | .ldyAbs w => .read (.abs w)
  | .ldyAbsx w => .read (.absx w)
  | .staZp b => .store (.zp b)
  | .staZpx b => .store (.zpx b)
  | .staAbs w => .store (.abs w)
  | .staAbsx w => .store (.absx w)
  | .staAbsy w => .store (.absy w)
  | .staIndx b => .store (.indx b)
  | .staIndy b => .store (.indy b)
  | .stxZp b => .store (.zp b)
  | .stxZpy b => .store (.zpy b)
  | .stxAbs w => .store (.abs w)
  | .styZp b => .store (.zp b)
  | .styZpx b => .store (.zpx b)
  | .styAbs w => .store (.abs w)
  | .tax => .plain
  | .tay => .plain
  | .tsx => .plain
  | .txa => .plain
  | .txs => .plain
  | .tya => .plain
  | .pha => .plain
  | .php => .plain
  | .pla => .plain
  | .plp => .plain
  | .adcImm _ => .immediate
  | .adcZp b => .read (.zp b)
  | .adcZpx b => .read (.zpx b)
  | .adcAbs w => .read (.abs w)
  | .adcAbsx w => .read (.absx w)
  | .adcAbsy w => .read (.absy w)
  | .adcIndx b => .read (.indx b)
  | .adcIndy b => .read (.indy b)
  | .sbcImm _ => .immediate
  | .sbcZp b => .read (.zp b)
  | .sbcZpx b => .read (.zpx b)
  | .sbcAbs w => .read (.abs w)
  | .sbcAbsx w => .read (.absx w)
  | .sbcAbsy w => .read (.absy w)
  | .sbcIndx b => .read (.indx b)
  | .sbcIndy b => .read (.indy b)
  | .andImm _ => .immediate
  | .andZp b => .read (.zp b)
  | .andZpx b => .read (.zpx b)
  | .andAbs w => .read (.abs w)
  | .andAbsx w => .read (.absx w)
  | .andAbsy w => .read (.absy w)
  | .andIndx b => .read (.indx b)
  | .andIndy b => .read (.indy b)
  | .oraImm _ => .immediate
  | .oraZp b => .read (.zp b)
  | .oraZpx b => .read (.zpx b)
  | .oraAbs w => .read (.abs w)
  | .oraAbsx w => .read (.absx w)
  | .oraAbsy w => .read (.absy w)
  | .oraIndx b => .read (.indx b)
  | .oraIndy b => .read (.indy b)
  | .eorImm _ => .immediate
  | .eorZp b => .read (.zp b)
  | .eorZpx b => .read (.zpx b)
  | .eorAbs w => .read (.abs w)
  | .eorAbsx w => .read (.absx w)
  | .eorAbsy w => .read (.absy w)
  | .eorIndx b => .read (.indx b)
  | .eorIndy b => .read (.indy b)
  | .bitZp b => .read (.zp b)
  | .bitAbs w => .read (.abs w)
  | .cmpImm _ => .immediate
  | .cmpZp b => .read (.zp b)
  | .cmpZpx b => .read (.zpx b)
  | .cmpAbs w => .read (.abs w)
  | .cmpAbsx w => .read (.absx w)
  | .cmpAbsy w => .read (.absy w)
  | .cmpIndx b => .read (.indx b)
  | .cmpIndy b => .read (.indy b)
  | .cpxImm _ => .immediate
  | .cpxZp b => .read (.zp b)
  | .cpxAbs w => .read (.abs w)
  | .cpyImm _ => .immediate
  | .cpyZp b => .read (.zp b)
  | .cpyAbs w => .read (.abs w)
  | .incZp b => .modify (.zp b)
  | .incZpx b => .modify (.zpx b)
  | .incAbs w => .modify (.abs w)
  | .incAbsx w => .modify (.absx w)
  | .decZp b => .modify (.zp b)
  | .decZpx b => .modify (.zpx b)
  | .decAbs w => .modify (.abs w)
  | .decAbsx w => .modify (.absx w)
  | .inx => .plain
  | .iny => .plain
  | .dex => .plain
  | .dey => .plain
  | .aslAcc => .accumulator
  | .aslZp b => .modify (.zp b)
  | .aslZpx b => .modify (.zpx b)
  | .aslAbs w => .modify (.abs w)
  | .aslAbsx w => .modify (.absx w)
  | .lsrAcc => .accumulator
  | .lsrZp b => .modify (.zp b)
  | .lsrZpx b => .modify (.zpx b)
  | .lsrAbs w => .modify (.abs w)
  | .lsrAbsx w => .modify (.absx w)
  | .rolAcc => .accumulator
  | .rolZp b => .modify (.zp b)
  | .rolZpx b => .modify (.zpx b)
  | .rolAbs w => .modify (.abs w)
  | .rolAbsx w => .modify (.absx w)
  | .rorAcc => .accumulator
  | .rorZp b => .modify (.zp b)
  | .rorZpx b => .modify (.zpx b)
  | .rorAbs w => .modify (.abs w)
  | .rorAbsx w => .modify (.absx w)
  | .jmpAbs _ => .plain
  | .jmpInd w => .jumpIndirect w
  | .jsrAbs _ => .plain
  | .rts => .plain
  | .rti => .plain
  | .brk => .plain
  | .bcc d => .branch d
  | .bcs d => .branch d
  | .beq d => .branch d
  | .bmi d => .branch d
  | .bne d => .branch d
  | .bpl d => .branch d
  | .bvc d => .branch d
  | .bvs d => .branch d
  | .clc => .plain
  | .cld => .plain
  | .cli => .plain
  | .clv => .plain
  | .sec => .plain
  | .sed => .plain
  | .sei => .plain
  | .nop => .plain

/-- The instruction ends in `t`, up to the cost field `cyc` (the model's own field, log 7). -/
def CompletesIn (i : Instr) (s t : State) : Prop := ∃ n, exec i s = .next (t.setCyc n)

/-- The state in which an instruction halts when its access raises a fatal error (60_exceptions.md R400): the error
records the access, the opcode and the address of the instruction, whose last byte lies before `next`. -/
def haltedBy (opcode : Byte) (length : Nat) (next : Word) (x : IoError) (t : State) : State :=
  t.setRun (.halted (.unrecognizedIoAccess x.addr x.dir (some opcode) (next - BitVec.ofNat 16 length)))

/-- A form without a memory operand: its bytes and its result. -/
def PlainFormRuns (i : Instr) (bytes : List Byte) (op : State → State) : Prop :=
  encode i = bytes ∧ ∀ s, CompletesIn i s (op s)

/-- A reading form with its bytes: it completes with `op` of the byte read whenever its operand can be read, and halts
when the read is fatal. -/
def ReadFormRuns (i : Instr) (bytes : List Byte) (m : MemMode) (op : Byte → State → State) : Prop :=
  encode i = bytes ∧
  (∀ s t v, busRead (m.ea s) s = .ok v t → CompletesIn i s (op v t)) ∧
  (∀ s t x, busRead (m.ea s) s = .fatal x t →
    exec i s = .next (haltedBy (bytes.headD 0) bytes.length s.pc x t))

/-- A storing form with its bytes: it completes with the bus write of `value` alone, and halts when the write is fatal. -/
def StoreFormRuns (i : Instr) (bytes : List Byte) (m : MemMode) (value : State → Byte) : Prop :=
  encode i = bytes ∧
  (∀ s t, busWrite (m.ea s) (value s) s = .ok () t → CompletesIn i s t) ∧
  (∀ s t x, busWrite (m.ea s) (value s) s = .fatal x t →
    exec i s = .next (haltedBy (bytes.headD 0) bytes.length s.pc x t))

/-- A read-modify-write form with its bytes: one read of `v`, then P becomes `carry v p`, one write of `result v p`, then N
and Z of the result; it halts at the first fatal access. -/
def ModifyFormRuns (i : Instr) (bytes : List Byte) (m : MemMode) (result carry : Byte → Byte → Byte) : Prop :=
  encode i = bytes ∧
  (∀ s t u v, busRead (m.ea s) s = .ok v t →
    busWrite (m.ea s) (result v t.p) (t.setP (carry v t.p)) = .ok () u →
    CompletesIn i s (u.setP (setNZ (result v t.p) u.p))) ∧
  (∀ s t x, busRead (m.ea s) s = .fatal x t →
    exec i s = .next (haltedBy (bytes.headD 0) bytes.length s.pc x t)) ∧
  (∀ s t u v x, busRead (m.ea s) s = .ok v t →
    busWrite (m.ea s) (result v t.p) (t.setP (carry v t.p)) = .fatal x u →
    exec i s = .next (haltedBy (bytes.headD 0) bytes.length s.pc x u))

/-- The state with one flag written. -/
def withFlag (f : Flag) (b : Bool) (s : State) : State := s.setP (putFlag f b s.p)

/-! ## What an instruction may write -/

/-- The instructions whose rule writes A (41 to 44); ASL, LSR, ROL and ROR in the Accumulator mode. -/
def writesA (i : Instr) : Bool :=
  ["LDA", "TXA", "TYA", "PLA", "ADC", "SBC", "AND", "ORA", "EOR"].contains (mnemonic i) || shapeOf i == .accumulator

/-- The instructions whose rule writes X. -/
def writesX (i : Instr) : Bool := ["LDX", "TAX", "TSX", "INX", "DEX"].contains (mnemonic i)

/-- The instructions whose rule writes Y. -/
def writesY (i : Instr) : Bool := ["LDY", "TAY", "INY", "DEY"].contains (mnemonic i)

/-- The instructions whose rule writes S, by TXS or through the stack primitives (R180, R181). -/
def writesSp (i : Instr) : Bool :=
  ["TXS", "PHA", "PHP", "PLA", "PLP", "JSR", "RTS", "RTI", "BRK"].contains (mnemonic i)

/-- The instructions that set PC to something else than the address after them (45_control_flow.md). -/
def writesPc (i : Instr) : Bool :=
  ["JMP", "JSR", "RTS", "RTI", "BRK", "BCC", "BCS", "BEQ", "BMI", "BNE", "BPL", "BVC", "BVS"].contains (mnemonic i)

/-- The bits of P an instruction's rule writes, by its "Flags" line. -/
def writtenFlags (i : Instr) : Byte :=
  let m := mnemonic i
  if ["LDA", "LDX", "LDY", "TAX", "TAY", "TSX", "TXA", "TYA", "PLA", "AND", "ORA", "EOR", "INC", "DEC", "INX", "INY",
      "DEX", "DEY"].contains m then 0x82
  else if ["ADC", "SBC"].contains m then 0xC3
  else if ["CMP", "CPX", "CPY", "ASL", "LSR", "ROL", "ROR"].contains m then 0x83
  else if m == "BIT" then 0xC2
  else if ["CLC", "SEC"].contains m then 0x01
  else if ["CLD", "SED"].contains m then 0x08
  else if ["CLI", "SEI", "BRK"].contains m then 0x04
  else if m == "CLV" then 0x40
  else if ["PLP", "RTI"].contains m then 0xFF
  else 0x00

/-- How many bytes an instruction pushes (42_stack.md R182, R183; 45_control_flow.md R231, R238). -/
def pushedBytes (i : Instr) : Nat :=
  let m := mnemonic i
  if ["PHA", "PHP"].contains m then 1 else if m == "JSR" then 2 else if m == "BRK" then 3 else 0

/-- The CPU address of the stack byte `k` below the top (10_state.md R21): `0x0100 + ((S - k) & 0xFF)`. -/
def stackAddress (s : State) (k : Nat) : Word := 0x0100#16 + zext16 (s.sp - BitVec.ofNat 8 k)

/-! ## Encoding and cost -/

/-- The undefined opcode values, as 30_encoding.md R126 lists them. -/
def undefinedOpcodes : List Byte :=
  [0x02, 0x03, 0x04, 0x07, 0x0B, 0x0C, 0x0F, 0x12, 0x13, 0x14, 0x17, 0x1A, 0x1B, 0x1C, 0x1F, 0x22] ++
    [0x23, 0x27, 0x2B, 0x2F, 0x32, 0x33, 0x34, 0x37, 0x3A, 0x3B, 0x3C, 0x3F, 0x42, 0x43, 0x44, 0x47] ++
    [0x4B, 0x4F, 0x52, 0x53, 0x54, 0x57, 0x5A, 0x5B, 0x5C, 0x5F, 0x62, 0x63, 0x64, 0x67, 0x6B, 0x6F] ++
    [0x72, 0x73, 0x74, 0x77, 0x7A, 0x7B, 0x7C, 0x7F, 0x80, 0x82, 0x83, 0x87, 0x89, 0x8B, 0x8F, 0x92] ++
    [0x93, 0x97, 0x9B, 0x9C, 0x9E, 0x9F, 0xA3, 0xA7, 0xAB, 0xAF, 0xB2, 0xB3, 0xB7, 0xBB, 0xBF, 0xC2] ++
    [0xC3, 0xC7, 0xCB, 0xCF, 0xD2, 0xD3, 0xD4, 0xD7, 0xDA, 0xDB, 0xDC, 0xDF, 0xE2, 0xE3, 0xE7, 0xEB] ++
    [0xEF, 0xF2, 0xF3, 0xF4, 0xF7, 0xFA, 0xFB, 0xFC, 0xFF]

/-- The condition of a branch (45_control_flow.md R241 to R248); no other instruction has one. -/
def branchTaken (i : Instr) (p : Byte) : Bool :=
  let m := mnemonic i
  if m == "BCC" then !getFlag .c p
  else if m == "BCS" then getFlag .c p
  else if m == "BEQ" then getFlag .z p
  else if m == "BMI" then getFlag .n p
  else if m == "BNE" then !getFlag .z p
  else if m == "BPL" then !getFlag .n p
  else if m == "BVC" then !getFlag .v p
  else if m == "BVS" then getFlag .v p
  else false

/-- `Extra(op, opnd)` (70_reset_and_hazards.md R450), from the shape of the instruction: the reads pay for a page
crossing, stores and read-modify-writes do not. -/
def extraCycles (i : Instr) (s : State) : Nat :=
  match shapeOf i with
  | .read m => if m.crossed s && s.cfg.pageCrossPenalty then 1 else 0
  | .branch d =>
    if branchTaken i s.p then
      (if pagesDiffer s.pc (branchTarget d s.pc) && s.cfg.pageCrossPenalty then 2 else 1)
    else 0
  | .plain => 0
  | .accumulator => 0
  | .immediate => 0
  | .store _ => 0
  | .modify _ => 0
  | .jumpIndirect _ => 0

/-- The base cost of the table (R125) as a function of the shape and, without an operand, of the mnemonic. -/
def shapeCost (i : Instr) : Nat :=
  match shapeOf i with
  | .accumulator => 2
  | .immediate => 2
  | .read (.zp _) => 3
  | .read (.indx _) => 6
  | .read (.indy _) => 5
  | .read _ => 4
  | .store (.zp _) => 3
  | .store (.absx _) => 5
  | .store (.absy _) => 5
  | .store (.indx _) => 6
  | .store (.indy _) => 6
  | .store _ => 4
  | .modify (.zp _) => 5
  | .modify (.absx _) => 7
  | .modify _ => 6
  | .branch _ => 2
  | .jumpIndirect _ => 5
  | .plain =>
    let m := mnemonic i
    if ["PHA", "PHP", "JMP"].contains m then 3
    else if ["PLA", "PLP"].contains m then 4
    else if ["JSR", "RTS", "RTI"].contains m then 6
    else if m == "BRK" then 7
    else 2

/-! ## The PPU address space -/

/-- The byte a PPU address names (20_memory.md R90 to R95): 0 pattern memory, 1 name-table RAM or 2 palette RAM, and the
index in it. -/
def ppuCell (cfg : Config) (addr : Word) : Nat × Nat :=
  let a := addr &&& 0x3FFF#16
  if a ≤ 0x1FFF#16 then (0, a.toNat)
  else if a ≤ 0x3EFF#16 then (1, ntIndex cfg.mirroring a)
  else (2, palIndex a)

/-! ## Pixels in numbers -/

/-- The value 0 to 3 of a pixel at bit `b` of a pattern row whose plane-0 byte is at `base` and plane-1 byte 8 further
(50_ppu_registers.md R332; 51_ppu_rendering.md R350, R359). -/
def patternValue (cfg : Config) (p : Ppu) (base b : Nat) : Nat :=
  2 * ((ppuRead cfg p (BitVec.ofNat 16 (base + 8))).toNat / 2 ^ b % 2) +
    (ppuRead cfg p (BitVec.ofNat 16 base)).toNat / 2 ^ b % 2

/-- The background pixel at column `x` from the counters at the start of the line (R330 to R333, R346, R350). Counted from
the left name table of the pair, its tile column is `32 * H + HT` moved right by one for each 8 pixels of `x + regFH`,
modulo 64; `V` picks the pair. The value is 0 where the background is not shown. -/
def backgroundPixel (cfg : Config) (p : Ppu) (x : Nat) : BgPixel :=
  let column := (p.cnt.h.toNat * 32 + p.cnt.ht.toNat + (x + p.regFH.toNat) / 8) % 64
  let table := 0x2000 + p.cnt.v.toNat * 0x800 + column / 32 * 0x400
  let ht := column % 32
  let vt := p.cnt.vt.toNat
  let tile := (ppuRead cfg p (BitVec.ofNat 16 (table + vt * 32 + ht))).toNat
  let attr := (ppuRead cfg p (BitVec.ofNat 16 (table + 0x3C0 + vt / 4 * 8 + ht / 4))).toNat
  let base := (if p.ctrl.getLsbD 4 then 0x1000 else 0) + tile * 16 + p.cnt.fv.toNat
  let shown := p.mask.getLsbD 3 && (decide (8 ≤ x) || p.mask.getLsbD 1)
  (if shown then BitVec.ofNat 2 (patternValue cfg p base (7 - (x + p.regFH.toNat) % 8)) else 0#2,
    BitVec.ofNat 2 (attr / 2 ^ (4 * (vt / 2 % 2) + 2 * (ht / 2 % 2))))

/-- The pixel value of sprite `i`, which covers row `y`, at column `x` (51_ppu_rendering.md R358, R359): 0 outside its
eight columns; otherwise the row counts from the sprite's top, or from its bottom when attribute bit 7 flips it, and the
bit from the left, or from the right when attribute bit 6 flips it. -/
def spriteValue (cfg : Config) (p : Ppu) (i x y : Nat) : Nat :=
  let left := (p.oam.read (4 * i + 3)).toNat
  let attr := p.oam.read (4 * i + 2)
  let row := y - ((p.oam.read (4 * i)).toNat + 1)
  let base := (if p.ctrl.getLsbD 3 then 0x1000 else 0) + (p.oam.read (4 * i + 1)).toNat * 16 +
    (if attr.getLsbD 7 then 7 - row else row)
  if left ≤ x ∧ x ≤ left + 7 then
    patternValue cfg p base (if attr.getLsbD 6 then x - left else 7 - (x - left))
  else 0

/-! ## Comparing states -/

/-- A state without its timing: the cost fields and the timing parameters of R9 cleared. -/
def withoutTiming (s : State) : State :=
  ((s.setCyc 0).setDmaStall 0).setCfg
    { s.cfg with cyclesPerScanline := 1, oamDmaStall := 0, pageCrossPenalty := false }

end Sys2Proof.Machine
end

