-- ==== Sys2Proof/Certificates/Slice0/Obligations.lean ====
section
/-! DEFINITION. The statements for the provers. Each docstring names what the statement formalises; OBLIGATIONS.json
gives its tier, basis and citations. -/

open Sys2Proof Sys2Proof.Machine

/-- O1. For every well-formed instruction, with every operand at every value, and every byte string after it: decode
(encode i ++ rest) is i with rest. No bit of an encoding is dropped. -/
def Obligations.DecodeInvertsEncode : Prop :=
  ∀ (i : Instr) (rest : List Byte), i.wf = true → decode (encode i ++ rest) = .ok (i, rest)

/-- O2. If decode bytes answers i and rest, then bytes is encode i followed by rest, and encode i is 1, 2 or 3 bytes
long: every word has one meaning. -/
def Obligations.EncodeInvertsDecode : Prop :=
  ∀ (bytes rest : List Byte) (i : Instr), decode bytes = .ok (i, rest) →
    bytes = encode i ++ rest ∧ 1 ≤ (encode i).length ∧ (encode i).length ≤ 3

/-- O3. One word of every family, written from R124 and R125: A9 05 is LDA #05, 85 10 STA zp, BA TSX, 48 PHA, 7D 34 12
ADC $1234,X, 24 BIT zp, D1 CMP (zp),Y, FE INC abs,X, 6A ROR A, 6C FF 02 JMP ($02FF), 20 00 90 JSR, D0 FB BNE, 78 SEI,
EA NOP, and 02 is refused. -/
def Obligations.SampleWordsDecode : Prop :=
  decode [0xA9, 0x05] = .ok (.ldaImm 0x05, []) ∧ decode [0x85, 0x10] = .ok (.staZp 0x10, []) ∧
  decode [0xBA] = .ok (.tsx, []) ∧ decode [0x48] = .ok (.pha, []) ∧
  decode [0x7D, 0x34, 0x12] = .ok (.adcAbsx 0x1234, []) ∧ decode [0x24, 0x02] = .ok (.bitZp 0x02, []) ∧
  decode [0xD1, 0x86] = .ok (.cmpIndy 0x86, []) ∧ decode [0xFE, 0x00, 0x03] = .ok (.incAbsx 0x0300, []) ∧
  decode [0x6A] = .ok (.rorAcc, []) ∧ decode [0x6C, 0xFF, 0x02] = .ok (.jmpInd 0x02FF, []) ∧
  decode [0x20, 0x00, 0x90] = .ok (.jsrAbs 0x9000, []) ∧ decode [0xD0, 0xFB] = .ok (.bne 0xFB, []) ∧
  decode [0x78] = .ok (.sei, []) ∧ decode [0xEA] = .ok (.nop, []) ∧
  decode [0x02] = .error (.undefinedOpcode 0x02)

/-- O4. undefinedOpcodes lists the 105 values of R126. Decoding refuses an opcode as undefined exactly when it is one
of them; and a Running machine whose opcode fetch, from any address, reads one of them steps to the state that fetch
left (its side effects included), PC past the opcode, Halted with the opcode and its address. -/
def Obligations.UndefinedOpcodeHalts : Prop :=
  undefinedOpcodes.length = 105 ∧ undefinedOpcodes.Nodup ∧
  (∀ op rest, decode (op :: rest) = .error (.undefinedOpcode op) ↔ op ∈ undefinedOpcodes) ∧
  (∀ (s u : State) (op : Byte), s.run = .running → op ∈ undefinedOpcodes → busRead s.pc s = .ok op u →
    step s = .next ((u.setPc (s.pc + 1)).setRun (.halted (.invalidOpcode op s.pc))))

/-- O5. When the bus reads at PC, in order and from any address (the PPU port and 0x4016 with their side effects among
them), give bytes that decode to the well-formed instruction i with nothing left over, step is exec i at the state
those reads left, with PC past the instruction and the stall cleared (R120), followed by the scanlines its cost
completes (R391); a fault or refusal of exec is passed on. Bytes readable without a side effect are read so with the
state unchanged. A fatal opcode fetch halts with the access and no opcode (log 6), a fatal operand fetch with the
access and the opcode, PC past the opcode. -/
def Obligations.StepRunsDecodedInstruction : Prop :=
  (∀ (s u : State) (bytes : List Byte) (i : Instr), s.run = .running → decode bytes = .ok (i, []) → i.wf = true →
    fetchBytes s.pc bytes.length s = .ok bytes u →
    step s =
      match exec i ((u.setPc (s.pc + BitVec.ofNat 16 bytes.length)).setDmaStall 0) with
      | .next t => .next (chargeCycles t)
      | .fault r => .fault r
      | .refused r => .refused r) ∧
  (∀ (s : State) (a : Word) (bytes : List Byte), holdsBytes s a bytes = true →
    fetchBytes a bytes.length s = .ok bytes s) ∧
  (∀ (s u : State) (x : IoError), s.run = .running → busRead s.pc s = .fatal x u →
    step s = .next (u.setRun (.halted (.unrecognizedIoAccess x.addr x.dir none s.pc)))) ∧
  (∀ (s u v : State) (op : Byte) (i : Instr) (x : IoError), s.run = .running → busRead s.pc s = .ok op u →
    opcodeOf i = op → fetchBytes (s.pc + 1) (i.length - 1) u = .fatal x v →
    step s = .next (((v.setPc (s.pc + 1)).setDmaStall 0).setRun
      (.halted (.unrecognizedIoAccess x.addr x.dir (some op) s.pc))))

/-- O6. Whatever else the state holds, if run is Halted(e) then step is the fault halted e. That the stop is a fault
of the model is its reading of R402 (log 5). -/
def Obligations.HaltedMachineTakesNoStep : Prop :=
  ∀ (s : State) (e : FatalError), s.run = .halted e → step s = .fault (.halted e)

/-- O7. For all 151 instructions and every state exec answers a next state (a fatal error is the next state with run
Halted, log 5), and so does step whenever the machine is Running: no instruction is refused and none faults. -/
def Obligations.EveryInstructionAnswersNext : Prop :=
  (∀ (i : Instr) (s : State), ∃ t, exec i s = .next t) ∧
  (∀ s : State, s.run = .running → ∃ t, step s = .next t)

/-- O8. The effective address of ZeroPage, ZeroPageX, ZeroPageY (index added modulo 256), Absolute, AbsoluteX and
AbsoluteY (index added modulo 65536) as numbers, and crossed for the absolute indexed modes is exactly that base and
effective address differ in bits 15:8; the other direct modes never cross. -/
def Obligations.DirectModeAddresses : Prop :=
  ∀ (s : State) (b : Byte) (w : Word),
    ((MemMode.zp b).ea s).toNat = b.toNat ∧
    ((MemMode.zpx b).ea s).toNat = (b.toNat + s.x.toNat) % 256 ∧
    ((MemMode.zpy b).ea s).toNat = (b.toNat + s.y.toNat) % 256 ∧
    ((MemMode.abs w).ea s).toNat = w.toNat ∧
    ((MemMode.absx w).ea s).toNat = (w.toNat + s.x.toNat) % 65536 ∧
    ((MemMode.absy w).ea s).toNat = (w.toNat + s.y.toNat) % 65536 ∧
    (MemMode.zp b).crossed s = false ∧ (MemMode.zpx b).crossed s = false ∧ (MemMode.zpy b).crossed s = false ∧
    (MemMode.abs w).crossed s = false ∧
    ((MemMode.absx w).crossed s = true ↔ w.toNat / 256 ≠ (w.toNat + s.x.toNat) % 65536 / 256) ∧
    ((MemMode.absy w).crossed s = true ↔ w.toNat / 256 ≠ (w.toNat + s.y.toNat) % 65536 / 256)

/-- O9. IndirectPreX reads the pointer at (b + X) & 0xFF and the byte after it modulo 256, low byte first;
IndirectPostY reads it at b and (b + 1) & 0xFF, adds Y modulo 65536, and crosses exactly when that changes bits 15:8.
Neither read has a side effect. -/
def Obligations.IndirectModeAddresses : Prop :=
  ∀ (s : State) (b : Byte),
    (∃ lo hi, busRead (BitVec.ofNat 16 ((b.toNat + s.x.toNat) % 256)) s = .ok lo s ∧
      busRead (BitVec.ofNat 16 ((b.toNat + s.x.toNat + 1) % 256)) s = .ok hi s ∧
      ((MemMode.indx b).ea s).toNat = hi.toNat * 256 + lo.toNat ∧ (MemMode.indx b).crossed s = false) ∧
    (∃ lo hi, busRead (BitVec.ofNat 16 b.toNat) s = .ok lo s ∧
      busRead (BitVec.ofNat 16 ((b.toNat + 1) % 256)) s = .ok hi s ∧
      ((MemMode.indy b).ea s).toNat = (hi.toNat * 256 + lo.toNat + s.y.toNat) % 65536 ∧
      ((MemMode.indy b).crossed s = true ↔
        hi.toNat ≠ (hi.toNat * 256 + lo.toNat + s.y.toNat) % 65536 / 256))

/-- O10. For every displacement d and every next-instruction address: the target is (next + d) mod 65536 with d read
as two's complement (d, or d - 256 from 0x80 up). -/
def Obligations.BranchTargets : Prop :=
  ∀ (d : Byte) (next : Word),
    ((branchTarget d next).toNat : Int) =
      ((next.toNat : Int) + (if d.toNat < 128 then (d.toNat : Int) else (d.toNat : Int) - 256)) % 65536

/-- O11. For every byte v and every P: after setNZ(v), Z is v == 0, N is bit 7 of v, and every other field of P is
unchanged. -/
def Obligations.SetNZWritesZeroAndSign : Prop :=
  ∀ (v p : Byte), getFlag .z (setNZ v p) = (v == 0) ∧ getFlag .n (setNZ v p) = v.getLsbD 7 ∧
    ∀ f, f ≠ .z → f ≠ .n → getFlag f (setNZ v p) = getFlag f p

/-- O12. Each of the 18 load forms has its opcode; it completes, for every state in which its operand can be read,
with the register set to the value, N and Z of it, and everything else as the bus read leaves it; when the read is
fatal it halts with the access, opcode and address recorded (log 5). Up to the cost field (log 7). -/
def Obligations.Loads : Prop :=
  (∀ v, PlainFormRuns (.ldaImm v) [0xA9, v] (fun s => (s.setA v).setP (setNZ v s.p))) ∧
  (∀ b, ReadFormRuns (.ldaZp b) [0xA5, b] (.zp b) (fun v s => (s.setA v).setP (setNZ v s.p))) ∧
  (∀ b, ReadFormRuns (.ldaZpx b) [0xB5, b] (.zpx b) (fun v s => (s.setA v).setP (setNZ v s.p))) ∧
  (∀ w, ReadFormRuns (.ldaAbs w) [0xAD, loByte w, hiByte w] (.abs w) (fun v s => (s.setA v).setP (setNZ v s.p))) ∧
  (∀ w, ReadFormRuns (.ldaAbsx w) [0xBD, loByte w, hiByte w] (.absx w) (fun v s => (s.setA v).setP (setNZ v s.p))) ∧
  (∀ w, ReadFormRuns (.ldaAbsy w) [0xB9, loByte w, hiByte w] (.absy w) (fun v s => (s.setA v).setP (setNZ v s.p))) ∧
  (∀ b, ReadFormRuns (.ldaIndx b) [0xA1, b] (.indx b) (fun v s => (s.setA v).setP (setNZ v s.p))) ∧
  (∀ b, ReadFormRuns (.ldaIndy b) [0xB1, b] (.indy b) (fun v s => (s.setA v).setP (setNZ v s.p))) ∧
  (∀ v, PlainFormRuns (.ldxImm v) [0xA2, v] (fun s => (s.setX v).setP (setNZ v s.p))) ∧
  (∀ b, ReadFormRuns (.ldxZp b) [0xA6, b] (.zp b) (fun v s => (s.setX v).setP (setNZ v s.p))) ∧
  (∀ b, ReadFormRuns (.ldxZpy b) [0xB6, b] (.zpy b) (fun v s => (s.setX v).setP (setNZ v s.p))) ∧
  (∀ w, ReadFormRuns (.ldxAbs w) [0xAE, loByte w, hiByte w] (.abs w) (fun v s => (s.setX v).setP (setNZ v s.p))) ∧
  (∀ w, ReadFormRuns (.ldxAbsy w) [0xBE, loByte w, hiByte w] (.absy w) (fun v s => (s.setX v).setP (setNZ v s.p))) ∧
  (∀ v, PlainFormRuns (.ldyImm v) [0xA0, v] (fun s => (s.setY v).setP (setNZ v s.p))) ∧
  (∀ b, ReadFormRuns (.ldyZp b) [0xA4, b] (.zp b) (fun v s => (s.setY v).setP (setNZ v s.p))) ∧
  (∀ b, ReadFormRuns (.ldyZpx b) [0xB4, b] (.zpx b) (fun v s => (s.setY v).setP (setNZ v s.p))) ∧
  (∀ w, ReadFormRuns (.ldyAbs w) [0xAC, loByte w, hiByte w] (.abs w) (fun v s => (s.setY v).setP (setNZ v s.p))) ∧
  (∀ w, ReadFormRuns (.ldyAbsx w) [0xBC, loByte w, hiByte w] (.absx w) (fun v s => (s.setY v).setP (setNZ v s.p)))

/-- O13. Each of the 13 store forms has its opcode; it completes, for every state in which the write does, in the
state that bus write leaves, with no flag or register written and without a read of the target; when the write is
fatal (register 2 of the PPU port, or a sprite DMA that reads one) it halts. Up to the cost field (log 7). -/
def Obligations.Stores : Prop :=
  (∀ b, StoreFormRuns (.staZp b) [0x85, b] (.zp b) (fun s => s.a)) ∧
  (∀ b, StoreFormRuns (.staZpx b) [0x95, b] (.zpx b) (fun s => s.a)) ∧
  (∀ w, StoreFormRuns (.staAbs w) [0x8D, loByte w, hiByte w] (.abs w) (fun s => s.a)) ∧
  (∀ w, StoreFormRuns (.staAbsx w) [0x9D, loByte w, hiByte w] (.absx w) (fun s => s.a)) ∧
  (∀ w, StoreFormRuns (.staAbsy w) [0x99, loByte w, hiByte w] (.absy w) (fun s => s.a)) ∧
  (∀ b, StoreFormRuns (.staIndx b) [0x81, b] (.indx b) (fun s => s.a)) ∧
  (∀ b, StoreFormRuns (.staIndy b) [0x91, b] (.indy b) (fun s => s.a)) ∧
  (∀ b, StoreFormRuns (.stxZp b) [0x86, b] (.zp b) (fun s => s.x)) ∧
  (∀ b, StoreFormRuns (.stxZpy b) [0x96, b] (.zpy b) (fun s => s.x)) ∧
  (∀ w, StoreFormRuns (.stxAbs w) [0x8E, loByte w, hiByte w] (.abs w) (fun s => s.x)) ∧
  (∀ b, StoreFormRuns (.styZp b) [0x84, b] (.zp b) (fun s => s.y)) ∧
  (∀ b, StoreFormRuns (.styZpx b) [0x94, b] (.zpx b) (fun s => s.y)) ∧
  (∀ w, StoreFormRuns (.styAbs w) [0x8C, loByte w, hiByte w] (.abs w) (fun s => s.y))

/-- O14. Each of the five transfers that write flags has its opcode and completes in every state with the destination
register equal to the source, N and Z of that value, and nothing else changed (up to the cost field, log 7). -/
def Obligations.Transfers : Prop :=
  PlainFormRuns .tax [0xAA] (fun s => (s.setX s.a).setP (setNZ s.a s.p)) ∧
  PlainFormRuns .tay [0xA8] (fun s => (s.setY s.a).setP (setNZ s.a s.p)) ∧
  PlainFormRuns .tsx [0xBA] (fun s => (s.setX s.sp).setP (setNZ s.sp s.p)) ∧
  PlainFormRuns .txa [0x8A] (fun s => (s.setA s.x).setP (setNZ s.x s.p)) ∧
  PlainFormRuns .tya [0x98] (fun s => (s.setA s.y).setP (setNZ s.y s.p))

/-- O15. For every byte and state: Push is the bus write of the byte at 0x0100 + S followed by S becoming (S - 1) &
0xFF, and Pop is S becoming (S + 1) & 0xFF followed by the bus read at 0x0100 + S; both accesses complete. -/
def Obligations.PushAndPopPrimitives : Prop :=
  (∀ (v : Byte) (s : State), ∃ t, busWrite (BitVec.ofNat 16 (0x0100 + s.sp.toNat)) v s = .ok () t ∧
    push v s = t.setSp (BitVec.ofNat 8 (s.sp.toNat + 255))) ∧
  (∀ s : State, ∃ u v, u = s.setSp (BitVec.ofNat 8 (s.sp.toNat + 1)) ∧
    busRead (BitVec.ofNat 16 (0x0100 + u.sp.toNat)) u = .ok v u ∧ pop s = (v, u))

/-- O16. For every S, 0x00 and 0xFF among them: Pop after Push gives the byte and the old S; Pop16 after Push16 gives
the word and the old S, its low byte lying at the lower stack slot. -/
def Obligations.StackRoundTrips : Prop :=
  ∀ (s : State) (v : Byte) (w : Word),
    (pop (push v s)).1 = v ∧ (pop (push v s)).2.sp = s.sp ∧
    (pop16 (push16 w s)).1 = w ∧ (pop16 (push16 w s)).2.sp = s.sp ∧
    peek (push16 w s) (stackAddress s 0) = some (hiByte w) ∧ peek (push16 w s) (stackAddress s 1) = some (loByte w)

/-- O17. PHP and PLA have their opcodes and complete in every state: PHP with the byte P | 0x30 pushed and P itself
unchanged, PLA with A the popped byte and N and Z of it (up to the cost field, log 7). -/
def Obligations.StackStatusAndPull : Prop :=
  PlainFormRuns .php [0x08] (fun s => push (s.p ||| 0x30) s) ∧
  PlainFormRuns .pla [0x68] (fun s => ((pop s).2.setA (pop s).1).setP (setNZ (pop s).1 s.p))

/-- O18. PHA pushes A; PLP loads P from the popped byte with bit 5 forced to 1 and bit 4 stored as 0; TXS copies X to
S and writes no flag; CLI and SEI write I alone; NOP changes nothing but the PC the fetch advanced. Each has its
opcode and completes in every state (up to the cost field, log 7). -/
def Obligations.OtherImpliedInstructions : Prop :=
  PlainFormRuns .pha [0x48] (fun s => push s.a s) ∧
  PlainFormRuns .plp [0x28] (fun s => (pop s).2.setP (((pop s).1 &&& 0xCF) ||| 0x20)) ∧
  PlainFormRuns .txs [0x9A] (fun s => s.setSp s.x) ∧
  PlainFormRuns .cli [0x58] (withFlag .i false) ∧
  PlainFormRuns .sei [0x78] (withFlag .i true) ∧
  PlainFormRuns .nop [0xEA] (fun s => s)

/-- O19. Each of the 16 forms has its opcode and completes, for every state in which its operand can be read, with A
the result byte (A + m + C, or A - m - (1 - C), modulo 256) and P the flags of the rule; D is not read. What the
result and each flag are is the obligation AddSubtractFlags. A fatal read halts (log 5). Up to the cost field (log 7).
-/
def Obligations.AddAndSubtract : Prop :=
  (∀ v, PlainFormRuns (.adcImm v) [0x69, v] (fun s => (s.setA (adcResult s.a v s.p)).setP (adcFlags s.a v s.p))) ∧
  (∀ b, ReadFormRuns (.adcZp b) [0x65, b] (.zp b) (fun m s => (s.setA (adcResult s.a m s.p)).setP (adcFlags s.a m s.p))) ∧
  (∀ b, ReadFormRuns (.adcZpx b) [0x75, b] (.zpx b) (fun m s => (s.setA (adcResult s.a m s.p)).setP (adcFlags s.a m s.p))) ∧
  (∀ w, ReadFormRuns (.adcAbs w) [0x6D, loByte w, hiByte w] (.abs w) (fun m s => (s.setA (adcResult s.a m s.p)).setP (adcFlags s.a m s.p))) ∧
  (∀ w, ReadFormRuns (.adcAbsx w) [0x7D, loByte w, hiByte w] (.absx w) (fun m s => (s.setA (adcResult s.a m s.p)).setP (adcFlags s.a m s.p))) ∧
  (∀ w, ReadFormRuns (.adcAbsy w) [0x79, loByte w, hiByte w] (.absy w) (fun m s => (s.setA (adcResult s.a m s.p)).setP (adcFlags s.a m s.p))) ∧
  (∀ b, ReadFormRuns (.adcIndx b) [0x61, b] (.indx b) (fun m s => (s.setA (adcResult s.a m s.p)).setP (adcFlags s.a m s.p))) ∧
  (∀ b, ReadFormRuns (.adcIndy b) [0x71, b] (.indy b) (fun m s => (s.setA (adcResult s.a m s.p)).setP (adcFlags s.a m s.p))) ∧
  (∀ v, PlainFormRuns (.sbcImm v) [0xE9, v] (fun s => (s.setA (sbcResult s.a v s.p)).setP (sbcFlags s.a v s.p))) ∧
  (∀ b, ReadFormRuns (.sbcZp b) [0xE5, b] (.zp b) (fun m s => (s.setA (sbcResult s.a m s.p)).setP (sbcFlags s.a m s.p))) ∧
  (∀ b, ReadFormRuns (.sbcZpx b) [0xF5, b] (.zpx b) (fun m s => (s.setA (sbcResult s.a m s.p)).setP (sbcFlags s.a m s.p))) ∧
  (∀ w, ReadFormRuns (.sbcAbs w) [0xED, loByte w, hiByte w] (.abs w) (fun m s => (s.setA (sbcResult s.a m s.p)).setP (sbcFlags s.a m s.p))) ∧
  (∀ w, ReadFormRuns (.sbcAbsx w) [0xFD, loByte w, hiByte w] (.absx w) (fun m s => (s.setA (sbcResult s.a m s.p)).setP (sbcFlags s.a m s.p))) ∧
  (∀ w, ReadFormRuns (.sbcAbsy w) [0xF9, loByte w, hiByte w] (.absy w) (fun m s => (s.setA (sbcResult s.a m s.p)).setP (sbcFlags s.a m s.p))) ∧
  (∀ b, ReadFormRuns (.sbcIndx b) [0xE1, b] (.indx b) (fun m s => (s.setA (sbcResult s.a m s.p)).setP (sbcFlags s.a m s.p))) ∧
  (∀ b, ReadFormRuns (.sbcIndy b) [0xF1, b] (.indy b) (fun m s => (s.setA (sbcResult s.a m s.p)).setP (sbcFlags s.a m s.p)))

/-- O20. For every A, m, P: ADC's result is (A + m + C) mod 256, C is a sum above 255, V is a two's complement sum
outside -128 to 127; SBC's result is (A - m - (1 - C)) mod 256, C is no borrow, V is a difference outside -128 to 127;
N and Z follow the result, D, I, B, U are unchanged; and SBC equals ADC of the complement of m in result and flags. -/
def Obligations.AddSubtractFlags : Prop :=
  ∀ (a m p : Byte),
    (adcResult a m p).toNat = (a.toNat + m.toNat + carryIn p) % 256 ∧
    getFlag .c (adcFlags a m p) = decide (255 < a.toNat + m.toNat + carryIn p) ∧
    (getFlag .v (adcFlags a m p) = true ↔
      a.toInt + m.toInt + carryIn p < -128 ∨ 127 < a.toInt + m.toInt + carryIn p) ∧
    ((sbcResult a m p).toNat : Int) = ((a.toNat : Int) - m.toNat - (1 - carryIn p)) % 256 ∧
    getFlag .c (sbcFlags a m p) = decide (m.toNat + 1 ≤ a.toNat + carryIn p) ∧
    (getFlag .v (sbcFlags a m p) = true ↔
      a.toInt - m.toInt - (1 - carryIn p) < -128 ∨ 127 < a.toInt - m.toInt - (1 - carryIn p)) ∧
    getFlag .z (adcFlags a m p) = (adcResult a m p == 0) ∧ getFlag .n (adcFlags a m p) = (adcResult a m p).getLsbD 7 ∧
    getFlag .z (sbcFlags a m p) = (sbcResult a m p == 0) ∧ getFlag .n (sbcFlags a m p) = (sbcResult a m p).getLsbD 7 ∧
    adcFlags a m p &&& 0x3C = p &&& 0x3C ∧
    sbcResult a m p = adcResult a (~~~m) p ∧ sbcFlags a m p = adcFlags a (~~~m) p

/-- O21. Each of the 24 forms has its opcode and completes, for every state in which its operand can be read, with A
the bitwise and, or, exclusive or of A and the operand, N and Z of the result and C and V unchanged. A fatal read
halts (log 5). Up to the cost field (log 7). -/
def Obligations.LogicInstructions : Prop :=
  (∀ v, PlainFormRuns (.andImm v) [0x29, v] (fun s => (s.setA (s.a &&& v)).setP (setNZ (s.a &&& v) s.p))) ∧
  (∀ b, ReadFormRuns (.andZp b) [0x25, b] (.zp b) (fun m s => (s.setA (s.a &&& m)).setP (setNZ (s.a &&& m) s.p))) ∧
  (∀ b, ReadFormRuns (.andZpx b) [0x35, b] (.zpx b) (fun m s => (s.setA (s.a &&& m)).setP (setNZ (s.a &&& m) s.p))) ∧
  (∀ w, ReadFormRuns (.andAbs w) [0x2D, loByte w, hiByte w] (.abs w) (fun m s => (s.setA (s.a &&& m)).setP (setNZ (s.a &&& m) s.p))) ∧
  (∀ w, ReadFormRuns (.andAbsx w) [0x3D, loByte w, hiByte w] (.absx w) (fun m s => (s.setA (s.a &&& m)).setP (setNZ (s.a &&& m) s.p))) ∧
  (∀ w, ReadFormRuns (.andAbsy w) [0x39, loByte w, hiByte w] (.absy w) (fun m s => (s.setA (s.a &&& m)).setP (setNZ (s.a &&& m) s.p))) ∧
  (∀ b, ReadFormRuns (.andIndx b) [0x21, b] (.indx b) (fun m s => (s.setA (s.a &&& m)).setP (setNZ (s.a &&& m) s.p))) ∧
  (∀ b, ReadFormRuns (.andIndy b) [0x31, b] (.indy b) (fun m s => (s.setA (s.a &&& m)).setP (setNZ (s.a &&& m) s.p))) ∧
  (∀ v, PlainFormRuns (.oraImm v) [0x09, v] (fun s => (s.setA (s.a ||| v)).setP (setNZ (s.a ||| v) s.p))) ∧
  (∀ b, ReadFormRuns (.oraZp b) [0x05, b] (.zp b) (fun m s => (s.setA (s.a ||| m)).setP (setNZ (s.a ||| m) s.p))) ∧
  (∀ b, ReadFormRuns (.oraZpx b) [0x15, b] (.zpx b) (fun m s => (s.setA (s.a ||| m)).setP (setNZ (s.a ||| m) s.p))) ∧
  (∀ w, ReadFormRuns (.oraAbs w) [0x0D, loByte w, hiByte w] (.abs w) (fun m s => (s.setA (s.a ||| m)).setP (setNZ (s.a ||| m) s.p))) ∧
  (∀ w, ReadFormRuns (.oraAbsx w) [0x1D, loByte w, hiByte w] (.absx w) (fun m s => (s.setA (s.a ||| m)).setP (setNZ (s.a ||| m) s.p))) ∧
  (∀ w, ReadFormRuns (.oraAbsy w) [0x19, loByte w, hiByte w] (.absy w) (fun m s => (s.setA (s.a ||| m)).setP (setNZ (s.a ||| m) s.p))) ∧
  (∀ b, ReadFormRuns (.oraIndx b) [0x01, b] (.indx b) (fun m s => (s.setA (s.a ||| m)).setP (setNZ (s.a ||| m) s.p))) ∧
  (∀ b, ReadFormRuns (.oraIndy b) [0x11, b] (.indy b) (fun m s => (s.setA (s.a ||| m)).setP (setNZ (s.a ||| m) s.p))) ∧
  (∀ v, PlainFormRuns (.eorImm v) [0x49, v] (fun s => (s.setA (s.a ^^^ v)).setP (setNZ (s.a ^^^ v) s.p))) ∧
  (∀ b, ReadFormRuns (.eorZp b) [0x45, b] (.zp b) (fun m s => (s.setA (s.a ^^^ m)).setP (setNZ (s.a ^^^ m) s.p))) ∧
  (∀ b, ReadFormRuns (.eorZpx b) [0x55, b] (.zpx b) (fun m s => (s.setA (s.a ^^^ m)).setP (setNZ (s.a ^^^ m) s.p))) ∧
  (∀ w, ReadFormRuns (.eorAbs w) [0x4D, loByte w, hiByte w] (.abs w) (fun m s => (s.setA (s.a ^^^ m)).setP (setNZ (s.a ^^^ m) s.p))) ∧
  (∀ w, ReadFormRuns (.eorAbsx w) [0x5D, loByte w, hiByte w] (.absx w) (fun m s => (s.setA (s.a ^^^ m)).setP (setNZ (s.a ^^^ m) s.p))) ∧
  (∀ w, ReadFormRuns (.eorAbsy w) [0x59, loByte w, hiByte w] (.absy w) (fun m s => (s.setA (s.a ^^^ m)).setP (setNZ (s.a ^^^ m) s.p))) ∧
  (∀ b, ReadFormRuns (.eorIndx b) [0x41, b] (.indx b) (fun m s => (s.setA (s.a ^^^ m)).setP (setNZ (s.a ^^^ m) s.p))) ∧
  (∀ b, ReadFormRuns (.eorIndy b) [0x51, b] (.indy b) (fun m s => (s.setA (s.a ^^^ m)).setP (setNZ (s.a ^^^ m) s.p)))

/-- O22. Each of the 16 forms has its opcode and completes, for every state in which its operand can be read, with no
register written: BIT with Z, V and N as R196 says, the compares with the flags of Compare(r, m) (obligation
CompareOrders). A fatal read halts (log 5). Up to the cost field (log 7). -/
def Obligations.BitAndCompare : Prop :=
  (∀ b, ReadFormRuns (.bitZp b) [0x24, b] (.zp b) (fun m s => s.setP (putFlag .n (m.getLsbD 7) (putFlag .v (m.getLsbD 6) (putFlag .z (s.a &&& m == 0) s.p))))) ∧
  (∀ w, ReadFormRuns (.bitAbs w) [0x2C, loByte w, hiByte w] (.abs w) (fun m s => s.setP (putFlag .n (m.getLsbD 7) (putFlag .v (m.getLsbD 6) (putFlag .z (s.a &&& m == 0) s.p))))) ∧
  (∀ v, PlainFormRuns (.cmpImm v) [0xC9, v] (fun s => s.setP (compareFlags s.a v s.p))) ∧
  (∀ b, ReadFormRuns (.cmpZp b) [0xC5, b] (.zp b) (fun m s => s.setP (compareFlags s.a m s.p))) ∧
  (∀ b, ReadFormRuns (.cmpZpx b) [0xD5, b] (.zpx b) (fun m s => s.setP (compareFlags s.a m s.p))) ∧
  (∀ w, ReadFormRuns (.cmpAbs w) [0xCD, loByte w, hiByte w] (.abs w) (fun m s => s.setP (compareFlags s.a m s.p))) ∧
  (∀ w, ReadFormRuns (.cmpAbsx w) [0xDD, loByte w, hiByte w] (.absx w) (fun m s => s.setP (compareFlags s.a m s.p))) ∧
  (∀ w, ReadFormRuns (.cmpAbsy w) [0xD9, loByte w, hiByte w] (.absy w) (fun m s => s.setP (compareFlags s.a m s.p))) ∧
  (∀ b, ReadFormRuns (.cmpIndx b) [0xC1, b] (.indx b) (fun m s => s.setP (compareFlags s.a m s.p))) ∧
  (∀ b, ReadFormRuns (.cmpIndy b) [0xD1, b] (.indy b) (fun m s => s.setP (compareFlags s.a m s.p))) ∧
  (∀ v, PlainFormRuns (.cpxImm v) [0xE0, v] (fun s => s.setP (compareFlags s.x v s.p))) ∧
  (∀ b, ReadFormRuns (.cpxZp b) [0xE4, b] (.zp b) (fun m s => s.setP (compareFlags s.x m s.p))) ∧
  (∀ w, ReadFormRuns (.cpxAbs w) [0xEC, loByte w, hiByte w] (.abs w) (fun m s => s.setP (compareFlags s.x m s.p))) ∧
  (∀ v, PlainFormRuns (.cpyImm v) [0xC0, v] (fun s => s.setP (compareFlags s.y v s.p))) ∧
  (∀ b, ReadFormRuns (.cpyZp b) [0xC4, b] (.zp b) (fun m s => s.setP (compareFlags s.y m s.p))) ∧
  (∀ w, ReadFormRuns (.cpyAbs w) [0xCC, loByte w, hiByte w] (.abs w) (fun m s => s.setP (compareFlags s.y m s.p)))

/-- O23. For every register value r, operand m and P: after Compare(r, m) C says that r is not below m as unsigned
numbers, Z that they are equal, N is bit 7 of (r - m) mod 256, and bits 2 to 6 of P are unchanged. -/
def Obligations.CompareOrders : Prop :=
  ∀ (r m p : Byte),
    getFlag .c (compareFlags r m p) = decide (m.toNat ≤ r.toNat) ∧
    getFlag .z (compareFlags r m p) = decide (r = m) ∧
    getFlag .n (compareFlags r m p) = (r - m).getLsbD 7 ∧
    compareFlags r m p &&& 0x7C = p &&& 0x7C

/-- O24. Each of the 8 forms has its opcode and completes, for every state in which its read and its write do, in the
state after one bus read and one bus write of the result, with N and Z of the result and C and V unchanged; the first
fatal access halts it (log 5). Up to the cost field (log 7). -/
def Obligations.MemoryIncrements : Prop :=
  (∀ b, ModifyFormRuns (.incZp b) [0xE6, b] (.zp b) (fun v _ => v + 1) (fun _ p => p)) ∧
  (∀ b, ModifyFormRuns (.incZpx b) [0xF6, b] (.zpx b) (fun v _ => v + 1) (fun _ p => p)) ∧
  (∀ w, ModifyFormRuns (.incAbs w) [0xEE, loByte w, hiByte w] (.abs w) (fun v _ => v + 1) (fun _ p => p)) ∧
  (∀ w, ModifyFormRuns (.incAbsx w) [0xFE, loByte w, hiByte w] (.absx w) (fun v _ => v + 1) (fun _ p => p)) ∧
  (∀ b, ModifyFormRuns (.decZp b) [0xC6, b] (.zp b) (fun v _ => v - 1) (fun _ p => p)) ∧
  (∀ b, ModifyFormRuns (.decZpx b) [0xD6, b] (.zpx b) (fun v _ => v - 1) (fun _ p => p)) ∧
  (∀ w, ModifyFormRuns (.decAbs w) [0xCE, loByte w, hiByte w] (.abs w) (fun v _ => v - 1) (fun _ p => p)) ∧
  (∀ w, ModifyFormRuns (.decAbsx w) [0xDE, loByte w, hiByte w] (.absx w) (fun v _ => v - 1) (fun _ p => p))

/-- O25. Each has its opcode and completes in every state with the register plus or minus one in 8 bits, N and Z of
the new value, C and everything else unchanged (up to the cost field, log 7). -/
def Obligations.RegisterIncrements : Prop :=
  PlainFormRuns .inx [0xE8] (fun s => (s.setX (s.x + 1)).setP (setNZ (s.x + 1) s.p)) ∧
  PlainFormRuns .iny [0xC8] (fun s => (s.setY (s.y + 1)).setP (setNZ (s.y + 1) s.p)) ∧
  PlainFormRuns .dex [0xCA] (fun s => (s.setX (s.x - 1)).setP (setNZ (s.x - 1) s.p)) ∧
  PlainFormRuns .dey [0x88] (fun s => (s.setY (s.y - 1)).setP (setNZ (s.y - 1) s.p))

/-- O26. Each of the 20 forms has its opcode. With v the operand and C the old carry, the result is 2v, v / 2, 2v + C,
v / 2 + 128 C modulo 256; the new C is bit 7 (left) or bit 0 (right) of v; N and Z are the result's. The A forms
complete in every state, the memory forms wherever their one read and one write do; a fatal access halts (log 5). Up
to the cost field (log 7). -/
def Obligations.ShiftsAndRotates : Prop :=
  PlainFormRuns .aslAcc [0x0A] (fun s => (s.setA (BitVec.ofNat 8 (s.a.toNat * 2))).setP (setNZ (BitVec.ofNat 8 (s.a.toNat * 2)) (putFlag .c (s.a.getLsbD 7) s.p))) ∧
  (∀ b, ModifyFormRuns (.aslZp b) [0x06, b] (.zp b) (fun v _ => BitVec.ofNat 8 (v.toNat * 2)) (fun v p => putFlag .c (v.getLsbD 7) p)) ∧
  (∀ b, ModifyFormRuns (.aslZpx b) [0x16, b] (.zpx b) (fun v _ => BitVec.ofNat 8 (v.toNat * 2)) (fun v p => putFlag .c (v.getLsbD 7) p)) ∧
  (∀ w, ModifyFormRuns (.aslAbs w) [0x0E, loByte w, hiByte w] (.abs w) (fun v _ => BitVec.ofNat 8 (v.toNat * 2)) (fun v p => putFlag .c (v.getLsbD 7) p)) ∧
  (∀ w, ModifyFormRuns (.aslAbsx w) [0x1E, loByte w, hiByte w] (.absx w) (fun v _ => BitVec.ofNat 8 (v.toNat * 2)) (fun v p => putFlag .c (v.getLsbD 7) p)) ∧
  PlainFormRuns .lsrAcc [0x4A] (fun s => (s.setA (BitVec.ofNat 8 (s.a.toNat / 2))).setP (setNZ (BitVec.ofNat 8 (s.a.toNat / 2)) (putFlag .c (s.a.getLsbD 0) s.p))) ∧
  (∀ b, ModifyFormRuns (.lsrZp b) [0x46, b] (.zp b) (fun v _ => BitVec.ofNat 8 (v.toNat / 2)) (fun v p => putFlag .c (v.getLsbD 0) p)) ∧
  (∀ b, ModifyFormRuns (.lsrZpx b) [0x56, b] (.zpx b) (fun v _ => BitVec.ofNat 8 (v.toNat / 2)) (fun v p => putFlag .c (v.getLsbD 0) p)) ∧
  (∀ w, ModifyFormRuns (.lsrAbs w) [0x4E, loByte w, hiByte w] (.abs w) (fun v _ => BitVec.ofNat 8 (v.toNat / 2)) (fun v p => putFlag .c (v.getLsbD 0) p)) ∧
  (∀ w, ModifyFormRuns (.lsrAbsx w) [0x5E, loByte w, hiByte w] (.absx w) (fun v _ => BitVec.ofNat 8 (v.toNat / 2)) (fun v p => putFlag .c (v.getLsbD 0) p)) ∧
  PlainFormRuns .rolAcc [0x2A] (fun s => (s.setA (BitVec.ofNat 8 (s.a.toNat * 2 + carryIn s.p))).setP (setNZ (BitVec.ofNat 8 (s.a.toNat * 2 + carryIn s.p)) (putFlag .c (s.a.getLsbD 7) s.p))) ∧
  (∀ b, ModifyFormRuns (.rolZp b) [0x26, b] (.zp b) (fun v p => BitVec.ofNat 8 (v.toNat * 2 + carryIn p)) (fun v p => putFlag .c (v.getLsbD 7) p)) ∧
  (∀ b, ModifyFormRuns (.rolZpx b) [0x36, b] (.zpx b) (fun v p => BitVec.ofNat 8 (v.toNat * 2 + carryIn p)) (fun v p => putFlag .c (v.getLsbD 7) p)) ∧
  (∀ w, ModifyFormRuns (.rolAbs w) [0x2E, loByte w, hiByte w] (.abs w) (fun v p => BitVec.ofNat 8 (v.toNat * 2 + carryIn p)) (fun v p => putFlag .c (v.getLsbD 7) p)) ∧
  (∀ w, ModifyFormRuns (.rolAbsx w) [0x3E, loByte w, hiByte w] (.absx w) (fun v p => BitVec.ofNat 8 (v.toNat * 2 + carryIn p)) (fun v p => putFlag .c (v.getLsbD 7) p)) ∧
  PlainFormRuns .rorAcc [0x6A] (fun s => (s.setA (BitVec.ofNat 8 (s.a.toNat / 2 + 128 * carryIn s.p))).setP (setNZ (BitVec.ofNat 8 (s.a.toNat / 2 + 128 * carryIn s.p)) (putFlag .c (s.a.getLsbD 0) s.p))) ∧
  (∀ b, ModifyFormRuns (.rorZp b) [0x66, b] (.zp b) (fun v p => BitVec.ofNat 8 (v.toNat / 2 + 128 * carryIn p)) (fun v p => putFlag .c (v.getLsbD 0) p)) ∧
  (∀ b, ModifyFormRuns (.rorZpx b) [0x76, b] (.zpx b) (fun v p => BitVec.ofNat 8 (v.toNat / 2 + 128 * carryIn p)) (fun v p => putFlag .c (v.getLsbD 0) p)) ∧
  (∀ w, ModifyFormRuns (.rorAbs w) [0x6E, loByte w, hiByte w] (.abs w) (fun v p => BitVec.ofNat 8 (v.toNat / 2 + 128 * carryIn p)) (fun v p => putFlag .c (v.getLsbD 0) p)) ∧
  (∀ w, ModifyFormRuns (.rorAbsx w) [0x7E, loByte w, hiByte w] (.absx w) (fun v p => BitVec.ofNat 8 (v.toNat / 2 + 128 * carryIn p)) (fun v p => putFlag .c (v.getLsbD 0) p))

/-- O27. JMP Absolute sets PC to its operand. JMP Indirect reads the low byte at the pointer and the high byte at the
pointer's page with the low address byte plus one modulo 256, then jumps; a fatal read halts (log 5). JSR pushes next
- 1 high byte first and jumps; RTS pops it low byte first and adds 1. All complete wherever their reads do. Up to the
cost field (log 7). -/
def Obligations.JumpsAndSubroutines : Prop :=
  (∀ w, PlainFormRuns (.jmpAbs w) [0x4C, loByte w, hiByte w] (fun s => s.setPc w)) ∧
  (∀ w, encode (.jmpInd w) = [0x6C, loByte w, hiByte w]) ∧
  (∀ w s t u lo hi, busRead w s = .ok lo t →
    busRead (BitVec.ofNat 16 (w.toNat / 256 * 256 + (w.toNat + 1) % 256)) t = .ok hi u →
    CompletesIn (.jmpInd w) s (u.setPc (BitVec.ofNat 16 (hi.toNat * 256 + lo.toNat)))) ∧
  (∀ w s t x, busRead w s = .fatal x t → exec (.jmpInd w) s = .next (haltedBy 0x6C 3 s.pc x t)) ∧
  (∀ w s t u lo x, busRead w s = .ok lo t →
    busRead (BitVec.ofNat 16 (w.toNat / 256 * 256 + (w.toNat + 1) % 256)) t = .fatal x u →
    exec (.jmpInd w) s = .next (haltedBy 0x6C 3 s.pc x u)) ∧
  (∀ w, PlainFormRuns (.jsrAbs w) [0x20, loByte w, hiByte w]
    (fun s => (push (loByte (s.pc - 1)) (push (hiByte (s.pc - 1)) s)).setPc w)) ∧
  PlainFormRuns .rts [0x60]
    (fun s => (pop (pop s).2).2.setPc (mkWord (pop (pop s).2).1 (pop s).1 + 1))

/-- O28. BRK, in every state and whatever I is: with next the address after it, next + 1 is pushed high byte first,
then P | 0x30; I is set, the rest of P is unchanged, and PC is the word the bus reads give at 0xFFFE and 0xFFFF. RTI:
P is the popped byte with bit 5 forced to 1 and bit 4 to 0, PC the popped word. Up to the cost field (log 7). -/
def Obligations.BreakAndReturnFromInterrupt : Prop :=
  encode .brk = [0x00] ∧ encode .rti = [0x40] ∧
  (∀ s : State, ∃ u lo hi,
    u = push (s.p ||| 0x30) (push (loByte (s.pc + 1)) (push (hiByte (s.pc + 1)) s)) ∧
    busRead 0xFFFE (u.setP (putFlag .i true s.p)) = .ok lo (u.setP (putFlag .i true s.p)) ∧
    busRead 0xFFFF (u.setP (putFlag .i true s.p)) = .ok hi (u.setP (putFlag .i true s.p)) ∧
    CompletesIn .brk s ((u.setP (putFlag .i true s.p)).setPc (BitVec.ofNat 16 (hi.toNat * 256 + lo.toNat)))) ∧
  (∀ s : State, CompletesIn .rti s
    ((pop (pop (pop s).2).2).2.setP (((pop s).1 &&& 0xCF) ||| 0x20) |>.setPc
      (mkWord (pop (pop (pop s).2).2).1 (pop (pop s).2).1)))

/-- O29. For each of the eight branches, every displacement and every state: it has its opcode and completes; PC
becomes next plus the signed displacement when the tested flag has the value of the rule, and stays next otherwise; no
flag, register or byte of memory changes (up to the cost field, log 7). -/
def Obligations.Branches : Prop :=
  (∀ d, PlainFormRuns (.bcc d) [0x90, d] (fun s => if getFlag .c s.p = false then s.setPc (s.pc + sext16 d) else s)) ∧
  (∀ d, PlainFormRuns (.bcs d) [0xB0, d] (fun s => if getFlag .c s.p = true then s.setPc (s.pc + sext16 d) else s)) ∧
  (∀ d, PlainFormRuns (.beq d) [0xF0, d] (fun s => if getFlag .z s.p = true then s.setPc (s.pc + sext16 d) else s)) ∧
  (∀ d, PlainFormRuns (.bmi d) [0x30, d] (fun s => if getFlag .n s.p = true then s.setPc (s.pc + sext16 d) else s)) ∧
  (∀ d, PlainFormRuns (.bne d) [0xD0, d] (fun s => if getFlag .z s.p = false then s.setPc (s.pc + sext16 d) else s)) ∧
  (∀ d, PlainFormRuns (.bpl d) [0x10, d] (fun s => if getFlag .n s.p = false then s.setPc (s.pc + sext16 d) else s)) ∧
  (∀ d, PlainFormRuns (.bvc d) [0x50, d] (fun s => if getFlag .v s.p = false then s.setPc (s.pc + sext16 d) else s)) ∧
  (∀ d, PlainFormRuns (.bvs d) [0x70, d] (fun s => if getFlag .v s.p = true then s.setPc (s.pc + sext16 d) else s))

/-- O30. Each has its opcode and completes in every state with the named bit of P cleared or set, every other bit of P
and everything else unchanged (up to the cost field, log 7). -/
def Obligations.FlagInstructions : Prop :=
  PlainFormRuns .clc [0x18] (fun s => s.setP (s.p &&& 0xFE)) ∧
  PlainFormRuns .cld [0xD8] (fun s => s.setP (s.p &&& 0xF7)) ∧
  PlainFormRuns .clv [0xB8] (fun s => s.setP (s.p &&& 0xBF)) ∧
  PlainFormRuns .sec [0x38] (fun s => s.setP (s.p ||| 0x01)) ∧
  PlainFormRuns .sed [0xF8] (fun s => s.setP (s.p ||| 0x08))

/-- O31. For every instruction that ends Running from a Running state: the cost is the base cost of its shape (the
table of R125), plus 1 for an indexed read that crosses a page, or 1 for a taken branch and 1 more if it crosses, the
crossing parts only with PAGE_CROSS_PENALTY (R450), plus the stall the instruction leaves (R393). The field cyc that
holds it is the model's own (log 7). -/
def Obligations.CycleCosts : Prop :=
  ∀ (i : Instr) (s t : State), s.run = .running → exec i s = .next t → t.run = .running →
    t.cyc = shapeCost i + extraCycles i s + t.dmaStall

/-- O32. For all 151 instructions, completed or halted: A, X, Y, S and PC change only where writesA, writesX, writesY,
writesSp, writesPc name the instruction, the bits of P outside writtenFlags are unchanged, and PRG, the configuration
(log 1), the scheduler and the output frame never change. -/
def Obligations.RegisterFrame : Prop :=
  ∀ (i : Instr) (s t : State), exec i s = .next t →
    (writesA i = false → t.a = s.a) ∧ (writesX i = false → t.x = s.x) ∧ (writesY i = false → t.y = s.y) ∧
    (writesSp i = false → t.sp = s.sp) ∧ (writesPc i = false → t.pc = s.pc) ∧
    t.p &&& ~~~(writtenFlags i) = s.p &&& ~~~(writtenFlags i) ∧
    t.prg = s.prg ∧ t.cfg = s.cfg ∧ t.sched = s.sched ∧ t.ppu.frame = s.ppu.frame

/-- O33. For every instruction whose shape is not a store or a read-modify-write and that pushes nothing (loads,
arithmetic, compares, transfers, pulls, jumps, branches, flag instructions, A forms), completed or halted: every CPU
address readable without a side effect, every PPU address and every sprite-RAM byte reads as before, and the DMA stall
is unchanged. -/
def Obligations.ReadsLeaveMemory : Prop :=
  ∀ (i : Instr) (s t : State), exec i s = .next t → pushedBytes i = 0 →
    (∀ m, shapeOf i ≠ .store m) → (∀ m, shapeOf i ≠ .modify m) → sameMemory s t ∧ t.dmaStall = s.dmaStall

/-- O34. For every instruction that stores, with m its operand mode: every CPU address that does not name the same RAM
or SRAM byte as m.ea s reads as before (m.ea is the address the meaning stores to); the PPU is unchanged unless that
address is in 0x2000 to 0x3FFF or is 0x4014, and the controller unless it is 0x4016 or 0x4014. Completed or halted. -/
def Obligations.StoresChangeOnlyTheirByte : Prop :=
  ∀ (i : Instr) (m : MemMode) (s t : State), exec i s = .next t → shapeOf i = .store m ∨ shapeOf i = .modify m →
    (∀ a, sameCell a (m.ea s) = false → peek t a = peek s a) ∧
    (regionOf (m.ea s) ≠ .ppu → regionOf (m.ea s) ≠ .dma → t.ppu = s.ppu) ∧
    (regionOf (m.ea s) ≠ .pad → regionOf (m.ea s) ≠ .dma → t.pad = s.pad)

/-- O35. For each instruction that pushes, the addresses stored to are 0x0100 + ((S - k) & 0xFF) for k below the
number of bytes pushed; every CPU address that names none of those bytes reads as before, and the PPU, the controller
and the DMA stall are unchanged. -/
def Obligations.PushesChangeOnlyTheStack : Prop :=
  ∀ (i : Instr) (s t : State), exec i s = .next t → 0 < pushedBytes i →
    (∀ a, (∀ k, k < pushedBytes i → sameCell a (stackAddress s k) = false) → peek t a = peek s a) ∧
    t.ppu = s.ppu ∧ t.pad = s.pad ∧ t.dmaStall = s.dmaStall

/-- O36. For every address and state, the ranges of R71 cover the address space: RAM at a mod 0x800; the PPU port by a
mod 8, registers 2, 4 and 7 read and the others fatal with the address recorded; 0x4016 the controller; the rest of
0x4000 to 0x5FFF reads 0x00; SRAM; PRG modulo its length. Outside the PPU port and 0x4016 a read changes nothing. -/
def Obligations.BusReadMap : Prop :=
  ∀ (a : Word) (s : State),
    (a.toNat ≤ 0x1FFF → busRead a s = .ok (s.ram.read (a.toNat % 0x800)) s) ∧
    (0x2000 ≤ a.toNat → a.toNat ≤ 0x3FFF →
      (a.toNat % 8 = 2 → busRead a s = .ok (statusRead s.ppu).1 (s.setPpu (statusRead s.ppu).2)) ∧
      (a.toNat % 8 = 4 → busRead a s = .ok (oamDataRead s.ppu).1 (s.setPpu (oamDataRead s.ppu).2)) ∧
      (a.toNat % 8 = 7 → busRead a s = .ok (ppuDataRead s.cfg s.ppu).1 (s.setPpu (ppuDataRead s.cfg s.ppu).2)) ∧
      (a.toNat % 8 ≠ 2 → a.toNat % 8 ≠ 4 → a.toNat % 8 ≠ 7 →
        busRead a s = .fatal { addr := a, dir := .read } s)) ∧
    (a = 0x4016 → busRead a s = .ok (padRead s.pad).1 (s.setPad (padRead s.pad).2)) ∧
    (0x4000 ≤ a.toNat → a.toNat ≤ 0x5FFF → a ≠ 0x4016 → busRead a s = .ok 0x00 s) ∧
    (0x6000 ≤ a.toNat → a.toNat ≤ 0x7FFF → busRead a s = .ok (s.sram.read (a.toNat - 0x6000)) s) ∧
    (0x8000 ≤ a.toNat → busRead a s = .ok (s.prg.read ((a.toNat - 0x8000) % prgLength s.cfg.prgSize)) s)

/-- O37. For every address other than the DMA port 0x4014 (obligation SpriteDma): RAM at a mod 0x800; the PPU port by
a mod 8 with register 2 fatal and the state unchanged; 0x4016 the strobe; SRAM; the rest of 0x4000 to 0x5FFF and
0x8000 to 0xFFFF no effect. What each PPU register does is in the obligations PpuPort and OamDataAndPpuDataWrites. -/
def Obligations.BusWriteMap : Prop :=
  ∀ (a : Word) (v : Byte) (s : State),
    (a.toNat ≤ 0x1FFF → busWrite a v s = .ok () (s.setRam (s.ram.write (a.toNat % 0x800) v))) ∧
    (0x2000 ≤ a.toNat → a.toNat ≤ 0x3FFF →
      (a.toNat % 8 = 0 → busWrite a v s = .ok () (s.setPpu (ctrlWrite v s.ppu))) ∧
      (a.toNat % 8 = 1 → busWrite a v s = .ok () (s.setPpu (maskWrite v s.ppu))) ∧
      (a.toNat % 8 = 2 → busWrite a v s = .fatal { addr := a, dir := .write } s) ∧
      (a.toNat % 8 = 3 → busWrite a v s = .ok () (s.setPpu (oamAddrWrite v s.ppu))) ∧
      (a.toNat % 8 = 5 → busWrite a v s = .ok () (s.setPpu (scrollWrite v s.ppu))) ∧
      (a.toNat % 8 = 6 → busWrite a v s = .ok () (s.setPpu (addrWrite v s.ppu)))) ∧
    (a = 0x4016 → busWrite a v s = .ok () (s.setPad (padWrite v s.pad))) ∧
    (0x4000 ≤ a.toNat → a.toNat ≤ 0x5FFF → a ≠ 0x4014 → a ≠ 0x4016 → busWrite a v s = .ok () s) ∧
    (0x6000 ≤ a.toNat → a.toNat ≤ 0x7FFF → busWrite a v s = .ok () (s.setSram (s.sram.write (a.toNat - 0x6000) v))) ∧
    (0x8000 ≤ a.toNat → busWrite a v s = .ok () s)

/-- O38. After a bus write to a RAM address, reading a RAM address gives the value where the two agree modulo 0x800
and the old byte elsewhere, and reading any SRAM address gives the old byte. After a bus write to an SRAM address,
reading an SRAM address gives the value at that address and the old byte elsewhere, and reading any RAM address gives
the old byte. -/
def Obligations.StoredBytesAreReadBack : Prop :=
  ∀ (a b : Word) (v : Byte) (s t : State), busWrite a v s = .ok () t →
    (a.toNat ≤ 0x1FFF →
      (b.toNat ≤ 0x1FFF →
        busRead b t = .ok (if a.toNat % 0x800 = b.toNat % 0x800 then v else s.ram.read (b.toNat % 0x800)) t) ∧
      (0x6000 ≤ b.toNat → b.toNat ≤ 0x7FFF → busRead b t = .ok (s.sram.read (b.toNat - 0x6000)) t)) ∧
    (0x6000 ≤ a.toNat → a.toNat ≤ 0x7FFF →
      (0x6000 ≤ b.toNat → b.toNat ≤ 0x7FFF →
        busRead b t = .ok (if a = b then v else s.sram.read (b.toNat - 0x6000)) t) ∧
      (b.toNat ≤ 0x1FFF → busRead b t = .ok (s.ram.read (b.toNat % 0x800)) t))

/-- O39. For every source page read without a side effect (all but 0x20 to 0x40): byte k of the page goes to sprite-
RAM index (oam_addr + k) & 0xFF for all 256 k, the cursor is unchanged, the stall grows by OAM_DMA_STALL_CYCLES, and
no CPU byte changes. Page 0x40 does the same with the one controller read at 0x4016, which advances the controller. A
page 0x20 to 0x3F begins with PPU register 0, whose read is fatal before any byte is copied. -/
def Obligations.SpriteDma : Prop :=
  ∀ (page : Byte) (s : State),
    (page.toNat < 0x20 ∨ 0x40 < page.toNat → ∃ t, busWrite 0x4014 page s = .ok () t ∧
      (∀ k, k < 256 →
        some (t.ppu.oam.read ((s.ppu.oamAddr.toNat + k) % 256)) = peek s (BitVec.ofNat 16 (page.toNat * 256 + k))) ∧
      t.ppu.oamAddr = s.ppu.oamAddr ∧ t.dmaStall = s.dmaStall + s.cfg.oamDmaStall ∧
      (∀ a, peek t a = peek s a) ∧ t.pad = s.pad ∧
      { t.ppu with oam := s.ppu.oam } = s.ppu) ∧
    (page = 0x40 → ∃ t, busWrite 0x4014 page s = .ok () t ∧
      (∀ k, k < 256 → t.ppu.oam.read ((s.ppu.oamAddr.toNat + k) % 256) = if k = 0x16 then (padRead s.pad).1 else 0x00) ∧
      t.ppu.oamAddr = s.ppu.oamAddr ∧ t.dmaStall = s.dmaStall + s.cfg.oamDmaStall ∧
      (∀ a, peek t a = peek s a) ∧ t.pad = (padRead s.pad).2 ∧
      { t.ppu with oam := s.ppu.oam } = s.ppu) ∧
    (0x20 ≤ page.toNat → page.toNat ≤ 0x3F →
      busWrite 0x4014 page s = .fatal { addr := BitVec.ofNat 16 (page.toNat * 256), dir := .read } s)

/-- O40. At every mirror of register 4 a CPU write stores the byte at oam[oam_addr] and the cursor becomes (oam_addr +
1) & 0xFF; at every mirror of register 7 it is PpuWrite(vram_address(), v) followed by IncrementScrollCounters.
Nothing else changes. -/
def Obligations.OamDataAndPpuDataWrites : Prop :=
  ∀ (a : Word) (v : Byte) (s : State), 0x2000 ≤ a.toNat → a.toNat ≤ 0x3FFF →
    (a.toNat % 8 = 4 → busWrite a v s = .ok () (s.setPpu
      { s.ppu with oam := s.ppu.oam.write s.ppu.oamAddr.toNat v, oamAddr := s.ppu.oamAddr + 1 })) ∧
    (a.toNat % 8 = 7 → busWrite a v s = .ok () (s.setPpu
      (incrementScrollCounters (ppuWrite s.cfg s.ppu (vramAddress s.ppu.cnt) v))))

/-- O41. PPUSTATUS returns VBLANK, SPR0_HIT, SPR_OVF in bits 7 to 5 with bits 4 to 0 zero, clears VBLANK and the
toggle and nothing else; PPUCTRL stores the byte and the name-table latches; PPUMASK and OAMADDR store the byte; an
OAMDATA read returns oam[oam_addr] and advances the cursor; a PPUDATA read is buffered below 0x3F00 and immediate
above, refills the buffer (from the name table beneath for the palette) and advances the counters. -/
def Obligations.PpuPort : Prop :=
  ∀ (cfg : Config) (p : Ppu) (v : Byte),
    (statusRead p).1.getLsbD 7 = p.vblank ∧ (statusRead p).1.getLsbD 6 = p.spr0Hit ∧
    (statusRead p).1.getLsbD 5 = p.sprOvf ∧ (statusRead p).1.toNat % 32 = 0 ∧
    (statusRead p).2 = { p with vblank := false, w := false } ∧
    ctrlWrite v p =
      { p with
        ctrl := v
        reg := { p.reg with v := BitVec.ofNat 1 (v.toNat / 2), h := BitVec.ofNat 1 v.toNat } } ∧
    maskWrite v p = { p with mask := v } ∧ oamAddrWrite v p = { p with oamAddr := v } ∧
    oamDataRead p = (p.oam.read p.oamAddr.toNat, { p with oamAddr := p.oamAddr + 1 }) ∧
    ((vramAddress p.cnt).toNat < 0x3F00 → ppuDataRead cfg p =
      (p.readBuffer, incrementScrollCounters { p with readBuffer := ppuRead cfg p (vramAddress p.cnt) })) ∧
    (0x3F00 ≤ (vramAddress p.cnt).toNat → ppuDataRead cfg p =
      (ppuRead cfg p (vramAddress p.cnt),
        incrementScrollCounters { p with readBuffer := ppuRead cfg p (vramAddress p.cnt - 0x1000) }))

/-- O42. A write with toggle 0 is the first of a pair, with toggle 1 the second, at either port, and does exactly what
R316 to R318 say. From toggle 0: after PPUSCROLL x then y, regFH and regHT are x mod 8 and x / 8, regFV and regVT are
y mod 8 and y / 8, the counters and the toggle are as before. After PPUADDR hi then lo, vram_address() is ((hi << 8) |
lo) & 0x3FFF, the counters equal the latches, FV bit 2 is 0 and the toggle is 0. After PPUSCROLL x then PPUADDR lo,
the second write sets regHT and the low part of regVT and loads the counters (R319); after PPUADDR hi then PPUSCROLL
y, the second write sets regFV and regVT and no counter changes. Nothing touches memory, PPUCTRL, PPUMASK or the
flags. -/
def Obligations.ScrollAndAddressPairs : Prop :=
  ∀ (p : Ppu) (x y hi lo : Byte),
    (p.w = false →
      scrollWrite x p =
        { p with
          regFH := BitVec.ofNat 3 x.toNat
          reg := { p.reg with ht := BitVec.ofNat 5 (x.toNat / 8) }
          w := true } ∧
      addrWrite hi p =
        { p with
          reg :=
            { p.reg with
              fv := BitVec.ofNat 3 (hi.toNat / 16 % 4)
              v := BitVec.ofNat 1 (hi.toNat / 8)
              h := BitVec.ofNat 1 (hi.toNat / 4)
              vt := BitVec.ofNat 5 (hi.toNat % 4 * 8 + p.reg.vt.toNat % 8) }
          w := true }) ∧
    (p.w = true →
      scrollWrite y p =
        { p with
          reg := { p.reg with fv := BitVec.ofNat 3 y.toNat, vt := BitVec.ofNat 5 (y.toNat / 8) }
          w := false } ∧
      addrWrite lo p =
        { p with
          reg :=
            { p.reg with
              vt := BitVec.ofNat 5 (p.reg.vt.toNat / 8 * 8 + lo.toNat / 32)
              ht := BitVec.ofNat 5 lo.toNat }
          cnt :=
            { p.reg with
              vt := BitVec.ofNat 5 (p.reg.vt.toNat / 8 * 8 + lo.toNat / 32)
              ht := BitVec.ofNat 5 lo.toNat }
          w := false }) ∧
    (p.w = false →
      scrollWrite y (scrollWrite x p) =
        { p with
          regFH := BitVec.ofNat 3 x.toNat
          reg :=
            { p.reg with
              ht := BitVec.ofNat 5 (x.toNat / 8)
              fv := BitVec.ofNat 3 y.toNat
              vt := BitVec.ofNat 5 (y.toNat / 8) } } ∧
      (vramAddress (addrWrite lo (addrWrite hi p)).cnt).toNat = (hi.toNat * 256 + lo.toNat) % 0x4000 ∧
      (addrWrite lo (addrWrite hi p)).cnt.fv.toNat < 4 ∧
      addrWrite lo (addrWrite hi p) =
        { p with reg := (addrWrite lo (addrWrite hi p)).cnt, cnt := (addrWrite lo (addrWrite hi p)).cnt } ∧
      addrWrite lo (scrollWrite x p) =
        { p with
          regFH := BitVec.ofNat 3 x.toNat
          reg :=
            { p.reg with
              vt := BitVec.ofNat 5 (p.reg.vt.toNat / 8 * 8 + lo.toNat / 32)
              ht := BitVec.ofNat 5 lo.toNat }
          cnt :=
            { p.reg with
              vt := BitVec.ofNat 5 (p.reg.vt.toNat / 8 * 8 + lo.toNat / 32)
              ht := BitVec.ofNat 5 lo.toNat } } ∧
      scrollWrite y (addrWrite hi p) =
        { p with
          reg :=
            { p.reg with
              fv := BitVec.ofNat 3 y.toNat
              v := BitVec.ofNat 1 (hi.toNat / 8)
              h := BitVec.ofNat 1 (hi.toNat / 4)
              vt := BitVec.ofNat 5 (y.toNat / 8) } })

/-- O43. For every PPU state: read as the 15-bit value FV, V, H, VT, HT, the counters after IncrementScrollCounters
are the counters before plus 32 with PPUCTRL bit 2 and plus 1 without, modulo 0x8000; every other field is unchanged.
-/
def Obligations.CounterIncrement : Prop :=
  ∀ p : Ppu,
    (incrementScrollCounters p).cnt.bits.toNat =
      (p.cnt.bits.toNat + (if p.ctrl.getLsbD 2 then 32 else 1)) % 0x8000 ∧
    { incrementScrollCounters p with cnt := p.cnt } = p

/-- O44. For every PPU state and address a: a reads as a mod 0x4000; in 0x2000 to 0x3EFF the name-table byte has index
n mod 0x800 (vertical) or (n / 0x800) * 0x400 + n mod 0x400 (horizontal) with n = (a - 0x2000) mod 0x1000, so 0x3000
to 0x3EFF mirrors 0x2000 to 0x2EFF; from 0x3F00 the palette repeats every 32 bytes and 0x3F10, 0x3F14, 0x3F18, 0x3F1C
are 0x3F00, 0x3F04, 0x3F08, 0x3F0C. -/
def Obligations.PpuSpaceMirrors : Prop :=
  ∀ (cfg : Config) (p : Ppu) (a : Word),
    ppuRead cfg p a = ppuRead cfg p (BitVec.ofNat 16 (a.toNat % 0x4000)) ∧
    (a.toNat ≤ 0x1FFF → ppuRead cfg p a = p.chr.read a.toNat) ∧
    (0x2000 ≤ a.toNat → a.toNat ≤ 0x3EFF → cfg.mirroring = .vertical →
      ppuRead cfg p a = p.ciram.read ((a.toNat - 0x2000) % 0x800)) ∧
    (0x2000 ≤ a.toNat → a.toNat ≤ 0x3EFF → cfg.mirroring = .horizontal →
      ppuRead cfg p a =
        p.ciram.read ((a.toNat - 0x2000) % 0x1000 / 0x800 * 0x400 + (a.toNat - 0x2000) % 0x400)) ∧
    (0x3000 ≤ a.toNat → a.toNat ≤ 0x3EFF → ppuRead cfg p a = ppuRead cfg p (a - 0x1000)) ∧
    (0x3F00 ≤ a.toNat → a.toNat ≤ 0x3FFF →
      ppuRead cfg p a =
        p.palette.read (if a.toNat % 32 ∈ [0x10, 0x14, 0x18, 0x1C] then a.toNat % 16 else a.toNat % 32))

/-- O45. For every configuration, PPU state and two addresses: after PpuWrite(a, v) reading b gives v when a and b
name the same byte, unless that byte is in CHR-ROM, and the old byte otherwise; sprite RAM, registers, latches,
counters and the frame are unchanged. -/
def Obligations.PpuWriteThenRead : Prop :=
  ∀ (cfg : Config) (p : Ppu) (a b : Word) (v : Byte),
    ppuRead cfg (ppuWrite cfg p a v) b =
      (if ppuCell cfg a = ppuCell cfg b ∧ ¬((ppuCell cfg a).1 = 0 ∧ cfg.chrRom = true) then v else ppuRead cfg p b) ∧
    { ppuWrite cfg p a v with chr := p.chr, ciram := p.ciram, palette := p.palette } = p

/-- O46. The scanline step outside the visible lines, for every PPU state: 0 clears SPR0_HIT and SPR_OVF; 1 to 19
change nothing; 20 clears VBLANK and, with rendering enabled, copies the latches into the counters; 261 sets VBLANK
and requests an NMI iff PPUCTRL bit 7; and no other scanline requests one. -/
def Obligations.ScanlineEvents : Prop :=
  ∀ (cfg : Config) (p : Ppu),
    renderScanline cfg 0 p = .done { p with spr0Hit := false, sprOvf := false } false ∧
    (∀ l, 1 ≤ l → l ≤ 19 → renderScanline cfg l p = .done p false) ∧
    (p.mask.getLsbD 3 = true ∨ p.mask.getLsbD 4 = true →
      renderScanline cfg 20 p = .done { p with vblank := false, cnt := p.reg } false) ∧
    (p.mask.getLsbD 3 = false → p.mask.getLsbD 4 = false →
      renderScanline cfg 20 p = .done { p with vblank := false } false) ∧
    renderScanline cfg 261 p = .done { p with vblank := true } (p.ctrl.getLsbD 7) ∧
    (∀ l q, renderScanline cfg l p = .done q true → l = 261 ∧ p.ctrl.getLsbD 7 = true)

/-- O47. Scanline l from 21 to 260 with rendering disabled writes row l - 21 with 256 copies of the (possibly grey)
colour at 0x3F00 and nothing else; with rendering enabled and 8x16 sprites it is fatal; else it writes the row, whose
pixel at each column x is ComposePixel of the background pixel there, and that background pixel is the one of the tile
the name table, attribute table and pattern table give at the counters moved right by (x + regFH) / 8 tiles (R330 to
R333, R346, R350; backgroundPixel writes it in numbers); it keeps every other row, keeps set sprite flags set, reloads
H and HT from the latches and moves FV, VT, V down one line (FV carries into VT, VT 29 wraps into V, VT 31 without V);
memories, registers and latches are unchanged. Rows are held sparsely (log 11). -/
def Obligations.VisibleLines : Prop :=
  ∀ (cfg : Config) (l : Nat) (p : Ppu), 21 ≤ l → l ≤ 260 →
    (p.mask.getLsbD 3 = false → p.mask.getLsbD 4 = false →
      renderScanline cfg l p = .done
        { p with
          frame := insertKey (l - 21)
            (List.replicate 256 (BitVec.ofNat 6
              ((ppuRead cfg p 0x3F00).toNat &&& (if p.mask.getLsbD 0 then 0x30 else 0x3F)))) p.frame } false) ∧
    (p.mask.getLsbD 3 = true ∨ p.mask.getLsbD 4 = true →
      (p.ctrl.getLsbD 5 = true → renderScanline cfg l p = .fatal) ∧
      (p.ctrl.getLsbD 5 = false → ∃ q row, renderScanline cfg l p = .done q false ∧
        lookupKey (l - 21) q.frame = some row ∧ row.length = 256 ∧
        (∀ x bg, (backgroundLine cfg p)[x]? = some bg →
          row[x]? = some (composePixel cfg p (selectedSprites p (l - 21)) bg x (l - 21))) ∧
        (∀ x, x < 256 → (backgroundLine cfg p)[x]? = some (backgroundPixel cfg p x)) ∧
        (∀ y, y ≠ l - 21 → lookupKey y q.frame = lookupKey y p.frame) ∧
        (p.sprOvf = true → q.sprOvf = true) ∧ (p.spr0Hit = true → q.spr0Hit = true) ∧
        q.cnt.h = p.reg.h ∧ q.cnt.ht = p.reg.ht ∧
        (p.cnt.fv ≠ 7 → q.cnt.fv = p.cnt.fv + 1 ∧ q.cnt.vt = p.cnt.vt ∧ q.cnt.v = p.cnt.v) ∧
        (p.cnt.fv = 7 → q.cnt.fv = 0 ∧
          (p.cnt.vt = 29 → q.cnt.vt = 0 ∧ q.cnt.v = p.cnt.v + 1) ∧
          (p.cnt.vt ≠ 29 → q.cnt.vt = p.cnt.vt + 1 ∧ q.cnt.v = p.cnt.v)) ∧
        { q with
          frame := p.frame, sprOvf := p.sprOvf, spr0Hit := p.spr0Hit, cnt := p.cnt } = p))

/-- O48. Sprite i covers row y iff oam[4i] + 1 <= y <= oam[4i] + 8. The selected sprites are at most eight, ascend in
OAM index, all cover the row, and a covering sprite is left out only if eight with a lower index are selected; a line
that renders leaves SPR_OVF set iff it was set or more than eight of the 64 sprites cover the row. -/
def Obligations.SpriteSelection : Prop :=
  ∀ (cfg : Config) (p : Ppu) (y : Nat),
    (selectedSprites p y).length ≤ 8 ∧ (selectedSprites p y).Pairwise (· < ·) ∧
    (∀ i, i ∈ selectedSprites p y → i < 64 ∧
      (p.oam.read (4 * i)).toNat + 1 ≤ y ∧ y ≤ (p.oam.read (4 * i)).toNat + 8) ∧
    (∀ i, i < 64 → (p.oam.read (4 * i)).toNat + 1 ≤ y → y ≤ (p.oam.read (4 * i)).toNat + 8 →
      i ∉ selectedSprites p y →
      (selectedSprites p y).length = 8 ∧ ∀ j, j ∈ selectedSprites p y → j < i) ∧
    ((renderLine cfg p y).sprOvf = true ↔ p.sprOvf = true ∨
      8 < ((List.range 64).filter fun i =>
        decide ((p.oam.read (4 * i)).toNat + 1 ≤ y ∧ y ≤ (p.oam.read (4 * i)).toNat + 8)).length)

/-- O49. The flag after a rendered line is set iff it was, or background and sprites are both shown, sprite 0 covers
the row, and at some x from 0 to 254, not hidden by left-column clipping of either, both the background pixel and
sprite 0's pixel are opaque; its priority bit does not matter. -/
def Obligations.SpriteZeroHit : Prop :=
  ∀ (cfg : Config) (p : Ppu) (y : Nat),
    (renderLine cfg p y).spr0Hit = true ↔ p.spr0Hit = true ∨
      (p.mask.getLsbD 3 = true ∧ p.mask.getLsbD 4 = true ∧
        (p.oam.read 0).toNat + 1 ≤ y ∧ y ≤ (p.oam.read 0).toNat + 8 ∧
        ∃ x bg, x ≤ 254 ∧ (x < 8 → p.mask.getLsbD 1 = true ∧ p.mask.getLsbD 2 = true) ∧
          (backgroundLine cfg p)[x]? = some bg ∧ bg.1 ≠ 0 ∧ spritePixel cfg p 0 x y ≠ 0)

/-- O50. With sprites shown at x: if sprite i is the first selected one with an opaque pixel there, the pixel is its
palette colour when its priority bit is 0 or the background is transparent, and the background colour otherwise, even
if a later sprite is in front. With no opaque selected sprite, or with sprites hidden at x (SHOW_SPR 0, or x below 8
with SPR_LEFT 0), the pixel is the background colour, or the colour at 0x3F00 when that is transparent. Grey keeps
bits 5 and 4 alone. A covering sprite has the pixel value of R359 (spriteValue writes it in numbers): the bits of its
tile row and column, both flips and the pattern table applied, and 0 outside its eight columns. -/
def Obligations.PixelPriority : Prop :=
  ∀ (cfg : Config) (p : Ppu) (bg : BgPixel) (x y : Nat),
    (p.mask.getLsbD 4 = true → (x < 8 → p.mask.getLsbD 2 = true) →
      ∀ i before after, selectedSprites p y = before ++ i :: after →
      (∀ j, j ∈ before → spritePixel cfg p j x y = 0) → spritePixel cfg p i x y ≠ 0 →
      composePixel cfg p (selectedSprites p y) bg x y =
        BitVec.ofNat 6 ((ppuRead cfg p (BitVec.ofNat 16
          (if (p.oam.read (4 * i + 2)).getLsbD 5 = false ∨ bg.1 = 0 then
            0x3F10 + 4 * ((p.oam.read (4 * i + 2)).toNat % 4) + (spritePixel cfg p i x y).toNat
          else 0x3F00 + 4 * bg.2.toNat + bg.1.toNat))).toNat &&& (if p.mask.getLsbD 0 then 0x30 else 0x3F))) ∧
    (p.mask.getLsbD 4 = false ∨ (x < 8 ∧ p.mask.getLsbD 2 = false) ∨
        (∀ j, j ∈ selectedSprites p y → spritePixel cfg p j x y = 0) →
      composePixel cfg p (selectedSprites p y) bg x y =
        BitVec.ofNat 6 ((ppuRead cfg p (BitVec.ofNat 16
          (if bg.1 = 0 then 0x3F00 else 0x3F00 + 4 * bg.2.toNat + bg.1.toNat))).toNat &&&
            (if p.mask.getLsbD 0 then 0x30 else 0x3F))) ∧
    (∀ i, (p.oam.read (4 * i)).toNat + 1 ≤ y → y ≤ (p.oam.read (4 * i)).toNat + 8 →
      (spritePixel cfg p i x y).toNat = spriteValue cfg p i x y)

/-- O51. NmiRequest with I = 1 changes nothing and costs 0. With I = 0 it costs 7, S drops by 3, the stack holds PCH,
PCL and (P & 0xEF) | 0x20 from the top down, I is set and the rest of P kept, PC is the word the bus reads at 0xFFFA,
and every other byte the CPU can read, A, X, Y, PPU, controller, SRAM, PRG, configuration, scheduler, run state, stall
and cost field are unchanged. -/
def Obligations.NmiEntry : Prop :=
  ∀ s : State,
    (getFlag .i s.p = true → nmiRequest s = (s, 0)) ∧
    (getFlag .i s.p = false → ∃ t lo hi, nmiRequest s = (t, 7) ∧
      busRead 0xFFFA s = .ok lo s ∧ busRead 0xFFFB s = .ok hi s ∧ t.pc.toNat = hi.toNat * 256 + lo.toNat ∧
      t.sp = s.sp - 3 ∧ t.p = s.p ||| 0x04 ∧
      peek t (stackAddress s 0) = some (hiByte s.pc) ∧ peek t (stackAddress s 1) = some (loByte s.pc) ∧
      peek t (stackAddress s 2) = some ((s.p &&& 0xEF) ||| 0x20) ∧
      t.a = s.a ∧ t.x = s.x ∧ t.y = s.y ∧ t.ppu = s.ppu ∧ t.pad = s.pad ∧ t.sram = s.sram ∧ t.sched = s.sched ∧
      (∀ a, (∀ k, k < 3 → sameCell a (stackAddress s k) = false) → peek t a = peek s a) ∧
      t.prg = s.prg ∧ t.cfg = s.cfg ∧ t.run = s.run ∧ t.dmaStall = s.dmaStall ∧ t.cyc = s.cyc)

/-- O52. After an instruction that left the machine Running, with C the configured cycles per scanline: if acc + cyc <
C only acc changes; if C <= acc + cyc < 2C and the line completes without an NMI request, exactly that line is
rendered, the line number advances modulo 262 and the remainder is kept; if the line asks for an NMI and the remainder
plus 7 is below C, NmiRequest follows and its cycles are added; if the line is fatal the machine halts with its
number. An instruction that halted renders nothing. For any number of scanlines (a sprite DMA): the cost is added,
then the loop of R391 takes one turn (a line charged, rendered, counted, its NMI taken) while the machine is Running
with C or more cycles left, and then continues from the state after that turn; otherwise it ends. The bound lineFuel
is the model's (log 8). -/
def Obligations.SchedulerChargesLines : Prop :=
  ∀ s : State,
    (∀ e, s.run = .halted e → chargeCycles s = s) ∧
    (s.run = .running → s.sched.acc + s.cyc < s.cfg.cyclesPerScanline →
      chargeCycles s = s.setSched { s.sched with acc := s.sched.acc + s.cyc }) ∧
    (∀ q, s.run = .running → s.cfg.cyclesPerScanline ≤ s.sched.acc + s.cyc →
      s.sched.acc + s.cyc < 2 * s.cfg.cyclesPerScanline →
      renderScanline s.cfg s.sched.line.val s.ppu = .done q false →
      chargeCycles s =
        (s.setPpu q).setSched
          { line := s.sched.line + 1, acc := s.sched.acc + s.cyc - s.cfg.cyclesPerScanline }) ∧
    (∀ q u, s.run = .running → s.cfg.cyclesPerScanline ≤ s.sched.acc + s.cyc →
      s.sched.acc + s.cyc + 7 < 2 * s.cfg.cyclesPerScanline →
      renderScanline s.cfg s.sched.line.val s.ppu = .done q true →
      u = (s.setPpu q).setSched
        { line := s.sched.line + 1, acc := s.sched.acc + s.cyc - s.cfg.cyclesPerScanline } →
      chargeCycles s =
        (nmiRequest u).1.setSched { line := u.sched.line, acc := u.sched.acc + (nmiRequest u).2 }) ∧
    (s.run = .running → s.cfg.cyclesPerScanline ≤ s.sched.acc + s.cyc →
      renderScanline s.cfg s.sched.line.val s.ppu = .fatal →
      (chargeCycles s).run = .halted (.unimplementedAddressingEdgeCase s.sched.line.val)) ∧
    (s.run = .running →
      chargeCycles s =
        renderLines (lineFuel (s.setSched { s.sched with acc := s.sched.acc + s.cyc }))
          (s.setSched { s.sched with acc := s.sched.acc + s.cyc })) ∧
    (s.run ≠ .running ∨ s.sched.acc < s.cfg.cyclesPerScanline → renderLines (lineFuel s) s = s) ∧
    (s.cfg.wf = true → s.run = .running → s.cfg.cyclesPerScanline ≤ s.sched.acc →
      renderLines (lineFuel s) s = renderLines (lineFuel (renderOneLine s)) (renderOneLine s)) ∧
    (renderScanline s.cfg s.sched.line.val s.ppu = .fatal →
      renderOneLine s =
        (s.setSched { s.sched with acc := s.sched.acc - s.cfg.cyclesPerScanline }).setRun
          (.halted (.unimplementedAddressingEdgeCase s.sched.line.val))) ∧
    (∀ q, renderScanline s.cfg s.sched.line.val s.ppu = .done q false →
      renderOneLine s =
        (s.setPpu q).setSched { line := s.sched.line + 1, acc := s.sched.acc - s.cfg.cyclesPerScanline }) ∧
    (∀ q u, renderScanline s.cfg s.sched.line.val s.ppu = .done q true →
      u = (s.setPpu q).setSched { line := s.sched.line + 1, acc := s.sched.acc - s.cfg.cyclesPerScanline } →
      renderOneLine s =
        (nmiRequest u).1.setSched { line := u.sched.line, acc := u.sched.acc + (nmiRequest u).2 })

/-- O53. For every state with a positive number of cycles per scanline and every fuel from lineFuel up (log 8): the
loop gives the same state as with lineFuel, and in it the machine is Halted or less than a scanline of cycles is left.
So the fuel never cuts the loop of R391 short. -/
def Obligations.SchedulerLoopEnds : Prop :=
  ∀ (s : State) (n : Nat), s.cfg.wf = true → lineFuel s ≤ n →
    renderLines n s = renderLines (lineFuel s) s ∧
    ((renderLines n s).run = .running → (renderLines n s).sched.acc < s.cfg.cyclesPerScanline)

/-- O54. For every controller state: writing any byte with bit 0 set and then one with it clear resets the cursor, and
read number k after that gives button k for k from 0 to 7 and 1 for every k from 8 up; the buttons are unchanged. -/
def Obligations.ControllerSequence : Prop :=
  ∀ (d : Pad) (v w : Byte) (k : Nat), v.getLsbD 0 = true → w.getLsbD 0 = false →
    (padRead ((fun e => (padRead e).2)^[k] (padWrite w (padWrite v d)))).1 =
        (if h : k < 8 then (if d.buttons[k] then 0x01 else 0x00) else 0x01) ∧
    ((fun e => (padRead e).2)^[k] (padWrite w (padWrite v d))).buttons = d.buttons

/-- O55. For every configuration and every draw, power-on gives A, X, Y 0, S 0xFF, P 0x20, Running, PC from the reset
vector, PPU registers, flags, toggle, latches and counters 0, the memories as drawn, controller and scheduler 0. A
reset request on a Running machine sets the CPU values and PC from the vector and keeps everything else; on a Halted
one it is refused. State.reset is the power-on of the default configuration with the model's blank image (logs 2 and
3). The configuration is a field of the model (log 1), and the empty frame is the model's reading of a frame that is
unspecified and not readable before it is written (log 11). -/
def Obligations.PowerOnAndReset : Prop :=
  (∀ (cfg : Config) (m : PowerOnImage) (s : State), s = State.powerOn cfg m →
    s.a = 0 ∧ s.x = 0 ∧ s.y = 0 ∧ s.sp = 0xFF ∧ s.p = 0x20 ∧ s.run = .running ∧ s.cfg = cfg ∧
    busRead 0xFFFC s = .ok (loByte s.pc) s ∧ busRead 0xFFFD s = .ok (hiByte s.pc) s ∧
    s.ram = m.ram ∧ s.sram = m.sram ∧ s.prg = m.prg ∧ s.ppu.ciram = m.ciram ∧ s.ppu.palette = m.palette ∧
    s.ppu.chr = m.chr ∧ s.ppu.oam = m.oam ∧ s.ppu.frame = [] ∧
    s.ppu.ctrl = 0 ∧ s.ppu.mask = 0 ∧ s.ppu.vblank = false ∧ s.ppu.spr0Hit = false ∧ s.ppu.sprOvf = false ∧
    s.ppu.oamAddr = 0 ∧ s.ppu.w = false ∧ s.ppu.readBuffer = 0 ∧ s.ppu.regFH = 0 ∧ s.ppu.reg.bits = 0 ∧
    s.ppu.cnt.bits = 0 ∧ s.pad.buttons = Vector.replicate 8 false ∧ s.pad.cursor = 0 ∧ s.pad.prevStrobe = false ∧
    s.sched.line = 0 ∧ s.sched.acc = 0 ∧ s.dmaStall = 0) ∧
  (∀ s : State, s.run = .running → ∃ lo hi, busRead 0xFFFC s = .ok lo s ∧ busRead 0xFFFD s = .ok hi s ∧
    hostReset s = .next
      ((((((s.setSp 0xFF).setA 0).setX 0).setY 0).setP 0x20).setPc (BitVec.ofNat 16 (hi.toNat * 256 + lo.toNat)))) ∧
  (∀ (s : State) (e : FatalError), s.run = .halted e → hostReset s = .refused .resetWhenHalted) ∧
  State.reset = State.powerOn Config.default PowerOnImage.blank

/-- O56. If the pushed bytes read as the entry left them and S is as it left it: RTS after JSR returns to the address
after the JSR with S as before it; RTI after BRK returns to op_pc + 2 with S as before and P as before with bit 5 set
and bit 4 clear; RTI after an NMI entry returns to the interrupted PC with S and P so restored. The handler may have
changed any other part of the state, other bytes of RAM among them. -/
def Obligations.CallsAndBreaksReturn : Prop :=
  (∀ (w : Word) (s t u r : State), exec (.jsrAbs w) s = .next t →
    (∀ k, k < 2 → peek u (stackAddress s k) = peek t (stackAddress s k)) → u.sp = t.sp →
    exec .rts u = .next r → r.pc = s.pc ∧ r.sp = s.sp) ∧
  (∀ s t u r : State, exec .brk s = .next t →
    (∀ k, k < 3 → peek u (stackAddress s k) = peek t (stackAddress s k)) → u.sp = t.sp →
    exec .rti u = .next r → r.pc = s.pc + 1 ∧ r.sp = s.sp ∧ r.p = (s.p &&& 0xCF) ||| 0x20) ∧
  (∀ s u r : State, getFlag .i s.p = false →
    (∀ k, k < 3 → peek u (stackAddress s k) = peek (nmiRequest s).1 (stackAddress s k)) →
    u.sp = (nmiRequest s).1.sp →
    exec .rti u = .next r → r.pc = s.pc ∧ r.sp = s.sp ∧ r.p = (s.p &&& 0xCF) ||| 0x20)

/-- O57. From every state that meets State.inv (P bits 5 and 4 are 1 and 0; every memory lists rising indices inside
its size with no zero byte listed; the frame holds rows 0 to 239 of 256 pixels; a Running machine has less than
CYCLES_PER_SCANLINE uncharged; that parameter is positive), whenever step answers a next state that state meets it
too, whatever instruction, DMA, scanline or NMI ran. -/
def Obligations.StepKeepsInvariant : Prop :=
  ∀ s t : State, s.inv = true → step s = .next t → t.inv = true

/-- O58. State.reset meets State.inv (its memories list nothing, logs 2 and 3), and so does State.powerOn for every
well-formed configuration and every image whose arrays are canonical and inside their sizes. -/
def Obligations.ResetMeetsInvariant : Prop :=
  State.reset.inv = true ∧
  (∀ (cfg : Config) (m : PowerOnImage), cfg.wf = true → memoryOk (State.powerOn cfg m) = true →
    (State.powerOn cfg m).inv = true)

/-- O59. Whatever instruction runs and whatever scanlines and NMI follow, a step that answers a next state leaves PRG
and the configuration (a field of the model, log 1) as they were, and the pattern memory too when it is CHR-ROM. -/
def Obligations.RomAndConfigurationNeverChange : Prop :=
  ∀ s t : State, step s = .next t →
    t.prg = s.prg ∧ t.cfg = s.cfg ∧ (s.cfg.chrRom = true → t.ppu.chr = s.ppu.chr)

/-- O60. For every instruction: two states that differ at most in CYCLES_PER_SCANLINE, OAM_DMA_STALL_CYCLES,
PAGE_CROSS_PENALTY, the stall and the cost field end in states that differ at most there, whether the instruction
completes or halts. So cycle costs place scanlines and do nothing else. -/
def Obligations.TimingDoesNotChangeResults : Prop :=
  ∀ (i : Instr) (s s' t t' : State), withoutTiming s = withoutTiming s' → exec i s = .next t → exec i s' = .next t' →
    withoutTiming t = withoutTiming t'
end

