-- ==== Sys2Proof/Laws/Bits.lean ====
section
/-! SUPPORT. The bit-field helpers as numbers. -/

namespace Sys2Proof

theorem mkWord_toNat (hi lo : Byte) : (mkWord hi lo).toNat = hi.toNat * 256 + lo.toNat := by
  have h : (mkWord hi lo).toNat = hi.toNat <<< 8 ||| lo.toNat := BitVec.toNat_append hi lo
  rw [h, ← Nat.shiftLeft_add_eq_or_of_lt lo.isLt, Nat.shiftLeft_eq]

theorem loByte_toNat (w : Word) : (loByte w).toNat = w.toNat % 256 := by simp [loByte]

theorem hiByte_toNat (w : Word) : (hiByte w).toNat = w.toNat / 256 := by
  have := w.isLt
  simp [hiByte, Nat.shiftRight_eq_div_pow]
  omega

theorem zext16_toNat (v : Byte) : (zext16 v).toNat = v.toNat := by
  unfold zext16
  bv_omega

theorem mkWord_hi_lo (w : Word) : mkWord (hiByte w) (loByte w) = w := by
  rw [← BitVec.toNat_inj, mkWord_toNat, hiByte_toNat, loByte_toNat]
  omega

theorem loByte_mkWord (hi lo : Byte) : loByte (mkWord hi lo) = lo := by
  have := lo.isLt
  rw [← BitVec.toNat_inj, loByte_toNat, mkWord_toNat]
  omega

theorem hiByte_mkWord (hi lo : Byte) : hiByte (mkWord hi lo) = hi := by
  have := lo.isLt
  rw [← BitVec.toNat_inj, hiByte_toNat, mkWord_toNat]
  omega

theorem pagesDiffer_iff (a b : Word) : pagesDiffer a b = true ↔ a.toNat / 256 ≠ b.toNat / 256 := by
  simp only [pagesDiffer, bne_iff_ne, ne_eq, ← BitVec.toNat_inj, hiByte_toNat]

theorem sext16_toNat (d : Byte) : (sext16 d).toNat = if d.toNat < 128 then d.toNat else d.toNat + 65280 := by
  revert d
  decide

end Sys2Proof
end

