-- ==== Sys2Proof/Laws/Memory.lean ====
section
/-! SUPPORT. The laws of byte arrays: reading after writing, and that a write keeps the canonical form and the bound. -/

namespace Sys2Proof.Machine

variable {α : Type}

/-! ## Keyed lists -/

@[simp] theorem lookupKey_insertKey_same (k : Nat) (v : α) (m : List (Nat × α)) :
    lookupKey k (insertKey k v m) = some v := by
  induction m with
  | nil => simp [insertKey, lookupKey]
  | cons c m ih =>
    obtain ⟨j, u⟩ := c
    unfold insertKey
    split_ifs with h1 h2
    · simp [lookupKey]
    · simp [lookupKey]
    · simp [lookupKey, h2, ih]

theorem lookupKey_insertKey_other {k j : Nat} (h : j ≠ k) (v : α) (m : List (Nat × α)) :
    lookupKey j (insertKey k v m) = lookupKey j m := by
  induction m with
  | nil => simp [insertKey, lookupKey, h]
  | cons c m ih =>
    obtain ⟨i, u⟩ := c
    unfold insertKey
    split_ifs with h1 h2
    · simp [lookupKey, h]
    · subst h2; simp [lookupKey, h]
    · simp [lookupKey, ih]

@[simp] theorem lookupKey_eraseKey_same (k : Nat) (m : List (Nat × α)) : lookupKey k (eraseKey k m) = none := by
  induction m with
  | nil => rfl
  | cons c m ih =>
    obtain ⟨j, u⟩ := c
    unfold eraseKey
    split_ifs with h
    · exact ih
    · simp [lookupKey, h, ih]

theorem lookupKey_eraseKey_other {k j : Nat} (h : j ≠ k) (m : List (Nat × α)) :
    lookupKey j (eraseKey k m) = lookupKey j m := by
  induction m with
  | nil => rfl
  | cons c m ih =>
    obtain ⟨i, u⟩ := c
    unfold eraseKey
    split_ifs with h1
    · subst h1; simp [lookupKey, h, ih]
    · simp [lookupKey, ih]

theorem keysRise_cons {j : Nat} {u : α} {m : List (Nat × α)} :
    keysRise ((j, u) :: m) = true ↔ keysRise m = true ∧ ∀ c ∈ m, j < c.1 := by
  induction m generalizing j u with
  | nil => simp [keysRise]
  | cons c m ih =>
    obtain ⟨k, v⟩ := c
    have hc := @ih k v
    simp only [keysRise, Bool.and_eq_true, decide_eq_true_eq, List.mem_cons, forall_eq_or_imp] at *
    constructor
    · rintro ⟨h1, h2⟩
      exact ⟨h2, h1, fun c hm => Nat.lt_trans h1 ((hc.mp h2).2 c hm)⟩
    · rintro ⟨h1, h2, -⟩
      exact ⟨h2, h1⟩

theorem mem_insertKey {c : Nat × α} {k : Nat} {v : α} {m : List (Nat × α)} (h : c ∈ insertKey k v m) :
    c = (k, v) ∨ c ∈ m := by
  induction m with
  | nil => simpa [insertKey] using h
  | cons d m ih =>
    obtain ⟨j, u⟩ := d
    unfold insertKey at h
    split_ifs at h with h1 h2
    · simpa using h
    · rcases List.mem_cons.mp h with h | h
      · exact .inl h
      · exact .inr (List.mem_cons_of_mem _ h)
    · rcases List.mem_cons.mp h with h | h
      · exact .inr (h ▸ List.mem_cons_self ..)
      · exact (ih h).imp id (List.mem_cons_of_mem _)

theorem mem_eraseKey {c : Nat × α} {k : Nat} {m : List (Nat × α)} (h : c ∈ eraseKey k m) : c ∈ m := by
  induction m with
  | nil => exact h
  | cons d m ih =>
    obtain ⟨j, u⟩ := d
    unfold eraseKey at h
    split_ifs at h with h1
    · exact List.mem_cons_of_mem _ (ih h)
    · rcases List.mem_cons.mp h with h | h
      · exact h ▸ List.mem_cons_self ..
      · exact List.mem_cons_of_mem _ (ih h)

theorem keysRise_insertKey (k : Nat) (v : α) {m : List (Nat × α)} (h : keysRise m = true) :
    keysRise (insertKey k v m) = true := by
  induction m with
  | nil => rfl
  | cons d m ih =>
    obtain ⟨j, u⟩ := d
    obtain ⟨hm, hj⟩ := keysRise_cons.mp h
    unfold insertKey
    split_ifs with h1 h2
    · refine keysRise_cons.mpr ⟨h, fun c hc => ?_⟩
      rcases List.mem_cons.mp hc with rfl | hc
      · exact h1
      · exact Nat.lt_trans h1 (hj c hc)
    · subst h2
      exact keysRise_cons.mpr ⟨hm, hj⟩
    · refine keysRise_cons.mpr ⟨ih hm, fun c hc => ?_⟩
      rcases mem_insertKey hc with rfl | hc
      · simp only; omega
      · exact hj c hc

theorem keysRise_eraseKey (k : Nat) {m : List (Nat × α)} (h : keysRise m = true) : keysRise (eraseKey k m) = true := by
  induction m with
  | nil => rfl
  | cons d m ih =>
    obtain ⟨j, u⟩ := d
    obtain ⟨hm, hj⟩ := keysRise_cons.mp h
    unfold eraseKey
    split_ifs with h1
    · exact ih hm
    · exact keysRise_cons.mpr ⟨ih hm, fun c hc => hj c (mem_eraseKey hc)⟩

/-! ## Byte arrays -/

@[simp] theorem Memory.read_nil (i : Nat) : Memory.read [] i = 0x00 := rfl

@[simp] theorem Memory.read_write_same (m : Memory) (i : Nat) (v : Byte) : (m.write i v).read i = v := by
  unfold Memory.write Memory.read
  split_ifs with h
  · simp [h]
  · simp

theorem Memory.read_write_other {i j : Nat} (h : j ≠ i) (m : Memory) (v : Byte) :
    (m.write i v).read j = m.read j := by
  unfold Memory.write Memory.read
  split_ifs with h0
  · rw [lookupKey_eraseKey_other h]
  · rw [lookupKey_insertKey_other h]

theorem Memory.read_write (m : Memory) (i j : Nat) (v : Byte) :
    (m.write i v).read j = if j = i then v else m.read j := by
  split_ifs with h
  · subst h; simp
  · exact Memory.read_write_other h m v

theorem Memory.wf_write {m : Memory} (h : m.wf = true) (i : Nat) (v : Byte) : (m.write i v).wf = true := by
  unfold Memory.wf at *
  simp only [Bool.and_eq_true, List.all_eq_true] at h ⊢
  unfold Memory.write
  split_ifs with h0
  · exact ⟨keysRise_eraseKey i h.1, fun c hc => h.2 c (mem_eraseKey hc)⟩
  · refine ⟨keysRise_insertKey i v h.1, fun c hc => ?_⟩
    rcases mem_insertKey hc with rfl | hc
    · simpa using h0
    · exact h.2 c hc

theorem Memory.fits_write {m : Memory} {n : Nat} (h : m.fits n = true) {i : Nat} (hi : i < n) (v : Byte) :
    (m.write i v).fits n = true := by
  unfold Memory.fits at *
  simp only [List.all_eq_true, decide_eq_true_eq] at h ⊢
  unfold Memory.write
  split_ifs with h0
  · exact fun c hc => h c (mem_eraseKey hc)
  · intro c hc
    rcases mem_insertKey hc with rfl | hc
    · exact hi
    · exact h c hc

@[simp] theorem Memory.wf_nil : Memory.wf [] = true := rfl

@[simp] theorem Memory.fits_nil (n : Nat) : Memory.fits n [] = true := rfl

end Sys2Proof.Machine
end

