-- ==== Sys2Proof/Laws/State.lean ====
section
/-! SUPPORT. One lemma per field per named update of the state. -/

namespace Sys2Proof.Machine

variable (s : State)

@[simp] theorem State.setA_a (v : Byte) : (s.setA v).a = v := rfl
@[simp] theorem State.setA_x (v : Byte) : (s.setA v).x = s.x := rfl
@[simp] theorem State.setA_y (v : Byte) : (s.setA v).y = s.y := rfl
@[simp] theorem State.setA_sp (v : Byte) : (s.setA v).sp = s.sp := rfl
@[simp] theorem State.setA_p (v : Byte) : (s.setA v).p = s.p := rfl
@[simp] theorem State.setA_pc (v : Byte) : (s.setA v).pc = s.pc := rfl
@[simp] theorem State.setA_run (v : Byte) : (s.setA v).run = s.run := rfl
@[simp] theorem State.setA_ram (v : Byte) : (s.setA v).ram = s.ram := rfl
@[simp] theorem State.setA_sram (v : Byte) : (s.setA v).sram = s.sram := rfl
@[simp] theorem State.setA_prg (v : Byte) : (s.setA v).prg = s.prg := rfl
@[simp] theorem State.setA_ppu (v : Byte) : (s.setA v).ppu = s.ppu := rfl
@[simp] theorem State.setA_pad (v : Byte) : (s.setA v).pad = s.pad := rfl
@[simp] theorem State.setA_sched (v : Byte) : (s.setA v).sched = s.sched := rfl
@[simp] theorem State.setA_dmaStall (v : Byte) : (s.setA v).dmaStall = s.dmaStall := rfl
@[simp] theorem State.setA_cyc (v : Byte) : (s.setA v).cyc = s.cyc := rfl
@[simp] theorem State.setA_cfg (v : Byte) : (s.setA v).cfg = s.cfg := rfl

@[simp] theorem State.setX_a (v : Byte) : (s.setX v).a = s.a := rfl
@[simp] theorem State.setX_x (v : Byte) : (s.setX v).x = v := rfl
@[simp] theorem State.setX_y (v : Byte) : (s.setX v).y = s.y := rfl
@[simp] theorem State.setX_sp (v : Byte) : (s.setX v).sp = s.sp := rfl
@[simp] theorem State.setX_p (v : Byte) : (s.setX v).p = s.p := rfl
@[simp] theorem State.setX_pc (v : Byte) : (s.setX v).pc = s.pc := rfl
@[simp] theorem State.setX_run (v : Byte) : (s.setX v).run = s.run := rfl
@[simp] theorem State.setX_ram (v : Byte) : (s.setX v).ram = s.ram := rfl
@[simp] theorem State.setX_sram (v : Byte) : (s.setX v).sram = s.sram := rfl
@[simp] theorem State.setX_prg (v : Byte) : (s.setX v).prg = s.prg := rfl
@[simp] theorem State.setX_ppu (v : Byte) : (s.setX v).ppu = s.ppu := rfl
@[simp] theorem State.setX_pad (v : Byte) : (s.setX v).pad = s.pad := rfl
@[simp] theorem State.setX_sched (v : Byte) : (s.setX v).sched = s.sched := rfl
@[simp] theorem State.setX_dmaStall (v : Byte) : (s.setX v).dmaStall = s.dmaStall := rfl
@[simp] theorem State.setX_cyc (v : Byte) : (s.setX v).cyc = s.cyc := rfl
@[simp] theorem State.setX_cfg (v : Byte) : (s.setX v).cfg = s.cfg := rfl

@[simp] theorem State.setY_a (v : Byte) : (s.setY v).a = s.a := rfl
@[simp] theorem State.setY_x (v : Byte) : (s.setY v).x = s.x := rfl
@[simp] theorem State.setY_y (v : Byte) : (s.setY v).y = v := rfl
@[simp] theorem State.setY_sp (v : Byte) : (s.setY v).sp = s.sp := rfl
@[simp] theorem State.setY_p (v : Byte) : (s.setY v).p = s.p := rfl
@[simp] theorem State.setY_pc (v : Byte) : (s.setY v).pc = s.pc := rfl
@[simp] theorem State.setY_run (v : Byte) : (s.setY v).run = s.run := rfl
@[simp] theorem State.setY_ram (v : Byte) : (s.setY v).ram = s.ram := rfl
@[simp] theorem State.setY_sram (v : Byte) : (s.setY v).sram = s.sram := rfl
@[simp] theorem State.setY_prg (v : Byte) : (s.setY v).prg = s.prg := rfl
@[simp] theorem State.setY_ppu (v : Byte) : (s.setY v).ppu = s.ppu := rfl
@[simp] theorem State.setY_pad (v : Byte) : (s.setY v).pad = s.pad := rfl
@[simp] theorem State.setY_sched (v : Byte) : (s.setY v).sched = s.sched := rfl
@[simp] theorem State.setY_dmaStall (v : Byte) : (s.setY v).dmaStall = s.dmaStall := rfl
@[simp] theorem State.setY_cyc (v : Byte) : (s.setY v).cyc = s.cyc := rfl
@[simp] theorem State.setY_cfg (v : Byte) : (s.setY v).cfg = s.cfg := rfl

@[simp] theorem State.setSp_a (v : Byte) : (s.setSp v).a = s.a := rfl
@[simp] theorem State.setSp_x (v : Byte) : (s.setSp v).x = s.x := rfl
@[simp] theorem State.setSp_y (v : Byte) : (s.setSp v).y = s.y := rfl
@[simp] theorem State.setSp_sp (v : Byte) : (s.setSp v).sp = v := rfl
@[simp] theorem State.setSp_p (v : Byte) : (s.setSp v).p = s.p := rfl
@[simp] theorem State.setSp_pc (v : Byte) : (s.setSp v).pc = s.pc := rfl
@[simp] theorem State.setSp_run (v : Byte) : (s.setSp v).run = s.run := rfl
@[simp] theorem State.setSp_ram (v : Byte) : (s.setSp v).ram = s.ram := rfl
@[simp] theorem State.setSp_sram (v : Byte) : (s.setSp v).sram = s.sram := rfl
@[simp] theorem State.setSp_prg (v : Byte) : (s.setSp v).prg = s.prg := rfl
@[simp] theorem State.setSp_ppu (v : Byte) : (s.setSp v).ppu = s.ppu := rfl
@[simp] theorem State.setSp_pad (v : Byte) : (s.setSp v).pad = s.pad := rfl
@[simp] theorem State.setSp_sched (v : Byte) : (s.setSp v).sched = s.sched := rfl
@[simp] theorem State.setSp_dmaStall (v : Byte) : (s.setSp v).dmaStall = s.dmaStall := rfl
@[simp] theorem State.setSp_cyc (v : Byte) : (s.setSp v).cyc = s.cyc := rfl
@[simp] theorem State.setSp_cfg (v : Byte) : (s.setSp v).cfg = s.cfg := rfl

@[simp] theorem State.setP_a (v : Byte) : (s.setP v).a = s.a := rfl
@[simp] theorem State.setP_x (v : Byte) : (s.setP v).x = s.x := rfl
@[simp] theorem State.setP_y (v : Byte) : (s.setP v).y = s.y := rfl
@[simp] theorem State.setP_sp (v : Byte) : (s.setP v).sp = s.sp := rfl
@[simp] theorem State.setP_p (v : Byte) : (s.setP v).p = v := rfl
@[simp] theorem State.setP_pc (v : Byte) : (s.setP v).pc = s.pc := rfl
@[simp] theorem State.setP_run (v : Byte) : (s.setP v).run = s.run := rfl
@[simp] theorem State.setP_ram (v : Byte) : (s.setP v).ram = s.ram := rfl
@[simp] theorem State.setP_sram (v : Byte) : (s.setP v).sram = s.sram := rfl
@[simp] theorem State.setP_prg (v : Byte) : (s.setP v).prg = s.prg := rfl
@[simp] theorem State.setP_ppu (v : Byte) : (s.setP v).ppu = s.ppu := rfl
@[simp] theorem State.setP_pad (v : Byte) : (s.setP v).pad = s.pad := rfl
@[simp] theorem State.setP_sched (v : Byte) : (s.setP v).sched = s.sched := rfl
@[simp] theorem State.setP_dmaStall (v : Byte) : (s.setP v).dmaStall = s.dmaStall := rfl
@[simp] theorem State.setP_cyc (v : Byte) : (s.setP v).cyc = s.cyc := rfl
@[simp] theorem State.setP_cfg (v : Byte) : (s.setP v).cfg = s.cfg := rfl

@[simp] theorem State.setPc_a (v : Word) : (s.setPc v).a = s.a := rfl
@[simp] theorem State.setPc_x (v : Word) : (s.setPc v).x = s.x := rfl
@[simp] theorem State.setPc_y (v : Word) : (s.setPc v).y = s.y := rfl
@[simp] theorem State.setPc_sp (v : Word) : (s.setPc v).sp = s.sp := rfl
@[simp] theorem State.setPc_p (v : Word) : (s.setPc v).p = s.p := rfl
@[simp] theorem State.setPc_pc (v : Word) : (s.setPc v).pc = v := rfl
@[simp] theorem State.setPc_run (v : Word) : (s.setPc v).run = s.run := rfl
@[simp] theorem State.setPc_ram (v : Word) : (s.setPc v).ram = s.ram := rfl
@[simp] theorem State.setPc_sram (v : Word) : (s.setPc v).sram = s.sram := rfl
@[simp] theorem State.setPc_prg (v : Word) : (s.setPc v).prg = s.prg := rfl
@[simp] theorem State.setPc_ppu (v : Word) : (s.setPc v).ppu = s.ppu := rfl
@[simp] theorem State.setPc_pad (v : Word) : (s.setPc v).pad = s.pad := rfl
@[simp] theorem State.setPc_sched (v : Word) : (s.setPc v).sched = s.sched := rfl
@[simp] theorem State.setPc_dmaStall (v : Word) : (s.setPc v).dmaStall = s.dmaStall := rfl
@[simp] theorem State.setPc_cyc (v : Word) : (s.setPc v).cyc = s.cyc := rfl
@[simp] theorem State.setPc_cfg (v : Word) : (s.setPc v).cfg = s.cfg := rfl

@[simp] theorem State.setRun_a (v : RunState) : (s.setRun v).a = s.a := rfl
@[simp] theorem State.setRun_x (v : RunState) : (s.setRun v).x = s.x := rfl
@[simp] theorem State.setRun_y (v : RunState) : (s.setRun v).y = s.y := rfl
@[simp] theorem State.setRun_sp (v : RunState) : (s.setRun v).sp = s.sp := rfl
@[simp] theorem State.setRun_p (v : RunState) : (s.setRun v).p = s.p := rfl
@[simp] theorem State.setRun_pc (v : RunState) : (s.setRun v).pc = s.pc := rfl
@[simp] theorem State.setRun_run (v : RunState) : (s.setRun v).run = v := rfl
@[simp] theorem State.setRun_ram (v : RunState) : (s.setRun v).ram = s.ram := rfl
@[simp] theorem State.setRun_sram (v : RunState) : (s.setRun v).sram = s.sram := rfl
@[simp] theorem State.setRun_prg (v : RunState) : (s.setRun v).prg = s.prg := rfl
@[simp] theorem State.setRun_ppu (v : RunState) : (s.setRun v).ppu = s.ppu := rfl
@[simp] theorem State.setRun_pad (v : RunState) : (s.setRun v).pad = s.pad := rfl
@[simp] theorem State.setRun_sched (v : RunState) : (s.setRun v).sched = s.sched := rfl
@[simp] theorem State.setRun_dmaStall (v : RunState) : (s.setRun v).dmaStall = s.dmaStall := rfl
@[simp] theorem State.setRun_cyc (v : RunState) : (s.setRun v).cyc = s.cyc := rfl
@[simp] theorem State.setRun_cfg (v : RunState) : (s.setRun v).cfg = s.cfg := rfl

@[simp] theorem State.setRam_a (v : Memory) : (s.setRam v).a = s.a := rfl
@[simp] theorem State.setRam_x (v : Memory) : (s.setRam v).x = s.x := rfl
@[simp] theorem State.setRam_y (v : Memory) : (s.setRam v).y = s.y := rfl
@[simp] theorem State.setRam_sp (v : Memory) : (s.setRam v).sp = s.sp := rfl
@[simp] theorem State.setRam_p (v : Memory) : (s.setRam v).p = s.p := rfl
@[simp] theorem State.setRam_pc (v : Memory) : (s.setRam v).pc = s.pc := rfl
@[simp] theorem State.setRam_run (v : Memory) : (s.setRam v).run = s.run := rfl
@[simp] theorem State.setRam_ram (v : Memory) : (s.setRam v).ram = v := rfl
@[simp] theorem State.setRam_sram (v : Memory) : (s.setRam v).sram = s.sram := rfl
@[simp] theorem State.setRam_prg (v : Memory) : (s.setRam v).prg = s.prg := rfl
@[simp] theorem State.setRam_ppu (v : Memory) : (s.setRam v).ppu = s.ppu := rfl
@[simp] theorem State.setRam_pad (v : Memory) : (s.setRam v).pad = s.pad := rfl
@[simp] theorem State.setRam_sched (v : Memory) : (s.setRam v).sched = s.sched := rfl
@[simp] theorem State.setRam_dmaStall (v : Memory) : (s.setRam v).dmaStall = s.dmaStall := rfl
@[simp] theorem State.setRam_cyc (v : Memory) : (s.setRam v).cyc = s.cyc := rfl
@[simp] theorem State.setRam_cfg (v : Memory) : (s.setRam v).cfg = s.cfg := rfl

@[simp] theorem State.setSram_a (v : Memory) : (s.setSram v).a = s.a := rfl
@[simp] theorem State.setSram_x (v : Memory) : (s.setSram v).x = s.x := rfl
@[simp] theorem State.setSram_y (v : Memory) : (s.setSram v).y = s.y := rfl
@[simp] theorem State.setSram_sp (v : Memory) : (s.setSram v).sp = s.sp := rfl
@[simp] theorem State.setSram_p (v : Memory) : (s.setSram v).p = s.p := rfl
@[simp] theorem State.setSram_pc (v : Memory) : (s.setSram v).pc = s.pc := rfl
@[simp] theorem State.setSram_run (v : Memory) : (s.setSram v).run = s.run := rfl
@[simp] theorem State.setSram_ram (v : Memory) : (s.setSram v).ram = s.ram := rfl
@[simp] theorem State.setSram_sram (v : Memory) : (s.setSram v).sram = v := rfl
@[simp] theorem State.setSram_prg (v : Memory) : (s.setSram v).prg = s.prg := rfl
@[simp] theorem State.setSram_ppu (v : Memory) : (s.setSram v).ppu = s.ppu := rfl
@[simp] theorem State.setSram_pad (v : Memory) : (s.setSram v).pad = s.pad := rfl
@[simp] theorem State.setSram_sched (v : Memory) : (s.setSram v).sched = s.sched := rfl
@[simp] theorem State.setSram_dmaStall (v : Memory) : (s.setSram v).dmaStall = s.dmaStall := rfl
@[simp] theorem State.setSram_cyc (v : Memory) : (s.setSram v).cyc = s.cyc := rfl
@[simp] theorem State.setSram_cfg (v : Memory) : (s.setSram v).cfg = s.cfg := rfl

@[simp] theorem State.setPrg_a (v : Memory) : (s.setPrg v).a = s.a := rfl
@[simp] theorem State.setPrg_x (v : Memory) : (s.setPrg v).x = s.x := rfl
@[simp] theorem State.setPrg_y (v : Memory) : (s.setPrg v).y = s.y := rfl
@[simp] theorem State.setPrg_sp (v : Memory) : (s.setPrg v).sp = s.sp := rfl
@[simp] theorem State.setPrg_p (v : Memory) : (s.setPrg v).p = s.p := rfl
@[simp] theorem State.setPrg_pc (v : Memory) : (s.setPrg v).pc = s.pc := rfl
@[simp] theorem State.setPrg_run (v : Memory) : (s.setPrg v).run = s.run := rfl
@[simp] theorem State.setPrg_ram (v : Memory) : (s.setPrg v).ram = s.ram := rfl
@[simp] theorem State.setPrg_sram (v : Memory) : (s.setPrg v).sram = s.sram := rfl
@[simp] theorem State.setPrg_prg (v : Memory) : (s.setPrg v).prg = v := rfl
@[simp] theorem State.setPrg_ppu (v : Memory) : (s.setPrg v).ppu = s.ppu := rfl
@[simp] theorem State.setPrg_pad (v : Memory) : (s.setPrg v).pad = s.pad := rfl
@[simp] theorem State.setPrg_sched (v : Memory) : (s.setPrg v).sched = s.sched := rfl
@[simp] theorem State.setPrg_dmaStall (v : Memory) : (s.setPrg v).dmaStall = s.dmaStall := rfl
@[simp] theorem State.setPrg_cyc (v : Memory) : (s.setPrg v).cyc = s.cyc := rfl
@[simp] theorem State.setPrg_cfg (v : Memory) : (s.setPrg v).cfg = s.cfg := rfl

@[simp] theorem State.setPpu_a (v : Ppu) : (s.setPpu v).a = s.a := rfl
@[simp] theorem State.setPpu_x (v : Ppu) : (s.setPpu v).x = s.x := rfl
@[simp] theorem State.setPpu_y (v : Ppu) : (s.setPpu v).y = s.y := rfl
@[simp] theorem State.setPpu_sp (v : Ppu) : (s.setPpu v).sp = s.sp := rfl
@[simp] theorem State.setPpu_p (v : Ppu) : (s.setPpu v).p = s.p := rfl
@[simp] theorem State.setPpu_pc (v : Ppu) : (s.setPpu v).pc = s.pc := rfl
@[simp] theorem State.setPpu_run (v : Ppu) : (s.setPpu v).run = s.run := rfl
@[simp] theorem State.setPpu_ram (v : Ppu) : (s.setPpu v).ram = s.ram := rfl
@[simp] theorem State.setPpu_sram (v : Ppu) : (s.setPpu v).sram = s.sram := rfl
@[simp] theorem State.setPpu_prg (v : Ppu) : (s.setPpu v).prg = s.prg := rfl
@[simp] theorem State.setPpu_ppu (v : Ppu) : (s.setPpu v).ppu = v := rfl
@[simp] theorem State.setPpu_pad (v : Ppu) : (s.setPpu v).pad = s.pad := rfl
@[simp] theorem State.setPpu_sched (v : Ppu) : (s.setPpu v).sched = s.sched := rfl
@[simp] theorem State.setPpu_dmaStall (v : Ppu) : (s.setPpu v).dmaStall = s.dmaStall := rfl
@[simp] theorem State.setPpu_cyc (v : Ppu) : (s.setPpu v).cyc = s.cyc := rfl
@[simp] theorem State.setPpu_cfg (v : Ppu) : (s.setPpu v).cfg = s.cfg := rfl

@[simp] theorem State.setPad_a (v : Pad) : (s.setPad v).a = s.a := rfl
@[simp] theorem State.setPad_x (v : Pad) : (s.setPad v).x = s.x := rfl
@[simp] theorem State.setPad_y (v : Pad) : (s.setPad v).y = s.y := rfl
@[simp] theorem State.setPad_sp (v : Pad) : (s.setPad v).sp = s.sp := rfl
@[simp] theorem State.setPad_p (v : Pad) : (s.setPad v).p = s.p := rfl
@[simp] theorem State.setPad_pc (v : Pad) : (s.setPad v).pc = s.pc := rfl
@[simp] theorem State.setPad_run (v : Pad) : (s.setPad v).run = s.run := rfl
@[simp] theorem State.setPad_ram (v : Pad) : (s.setPad v).ram = s.ram := rfl
@[simp] theorem State.setPad_sram (v : Pad) : (s.setPad v).sram = s.sram := rfl
@[simp] theorem State.setPad_prg (v : Pad) : (s.setPad v).prg = s.prg := rfl
@[simp] theorem State.setPad_ppu (v : Pad) : (s.setPad v).ppu = s.ppu := rfl
@[simp] theorem State.setPad_pad (v : Pad) : (s.setPad v).pad = v := rfl
@[simp] theorem State.setPad_sched (v : Pad) : (s.setPad v).sched = s.sched := rfl
@[simp] theorem State.setPad_dmaStall (v : Pad) : (s.setPad v).dmaStall = s.dmaStall := rfl
@[simp] theorem State.setPad_cyc (v : Pad) : (s.setPad v).cyc = s.cyc := rfl
@[simp] theorem State.setPad_cfg (v : Pad) : (s.setPad v).cfg = s.cfg := rfl

@[simp] theorem State.setSched_a (v : Sched) : (s.setSched v).a = s.a := rfl
@[simp] theorem State.setSched_x (v : Sched) : (s.setSched v).x = s.x := rfl
@[simp] theorem State.setSched_y (v : Sched) : (s.setSched v).y = s.y := rfl
@[simp] theorem State.setSched_sp (v : Sched) : (s.setSched v).sp = s.sp := rfl
@[simp] theorem State.setSched_p (v : Sched) : (s.setSched v).p = s.p := rfl
@[simp] theorem State.setSched_pc (v : Sched) : (s.setSched v).pc = s.pc := rfl
@[simp] theorem State.setSched_run (v : Sched) : (s.setSched v).run = s.run := rfl
@[simp] theorem State.setSched_ram (v : Sched) : (s.setSched v).ram = s.ram := rfl
@[simp] theorem State.setSched_sram (v : Sched) : (s.setSched v).sram = s.sram := rfl
@[simp] theorem State.setSched_prg (v : Sched) : (s.setSched v).prg = s.prg := rfl
@[simp] theorem State.setSched_ppu (v : Sched) : (s.setSched v).ppu = s.ppu := rfl
@[simp] theorem State.setSched_pad (v : Sched) : (s.setSched v).pad = s.pad := rfl
@[simp] theorem State.setSched_sched (v : Sched) : (s.setSched v).sched = v := rfl
@[simp] theorem State.setSched_dmaStall (v : Sched) : (s.setSched v).dmaStall = s.dmaStall := rfl
@[simp] theorem State.setSched_cyc (v : Sched) : (s.setSched v).cyc = s.cyc := rfl
@[simp] theorem State.setSched_cfg (v : Sched) : (s.setSched v).cfg = s.cfg := rfl

@[simp] theorem State.setDmaStall_a (v : Nat) : (s.setDmaStall v).a = s.a := rfl
@[simp] theorem State.setDmaStall_x (v : Nat) : (s.setDmaStall v).x = s.x := rfl
@[simp] theorem State.setDmaStall_y (v : Nat) : (s.setDmaStall v).y = s.y := rfl
@[simp] theorem State.setDmaStall_sp (v : Nat) : (s.setDmaStall v).sp = s.sp := rfl
@[simp] theorem State.setDmaStall_p (v : Nat) : (s.setDmaStall v).p = s.p := rfl
@[simp] theorem State.setDmaStall_pc (v : Nat) : (s.setDmaStall v).pc = s.pc := rfl
@[simp] theorem State.setDmaStall_run (v : Nat) : (s.setDmaStall v).run = s.run := rfl
@[simp] theorem State.setDmaStall_ram (v : Nat) : (s.setDmaStall v).ram = s.ram := rfl
@[simp] theorem State.setDmaStall_sram (v : Nat) : (s.setDmaStall v).sram = s.sram := rfl
@[simp] theorem State.setDmaStall_prg (v : Nat) : (s.setDmaStall v).prg = s.prg := rfl
@[simp] theorem State.setDmaStall_ppu (v : Nat) : (s.setDmaStall v).ppu = s.ppu := rfl
@[simp] theorem State.setDmaStall_pad (v : Nat) : (s.setDmaStall v).pad = s.pad := rfl
@[simp] theorem State.setDmaStall_sched (v : Nat) : (s.setDmaStall v).sched = s.sched := rfl
@[simp] theorem State.setDmaStall_dmaStall (v : Nat) : (s.setDmaStall v).dmaStall = v := rfl
@[simp] theorem State.setDmaStall_cyc (v : Nat) : (s.setDmaStall v).cyc = s.cyc := rfl
@[simp] theorem State.setDmaStall_cfg (v : Nat) : (s.setDmaStall v).cfg = s.cfg := rfl

@[simp] theorem State.setCyc_a (v : Nat) : (s.setCyc v).a = s.a := rfl
@[simp] theorem State.setCyc_x (v : Nat) : (s.setCyc v).x = s.x := rfl
@[simp] theorem State.setCyc_y (v : Nat) : (s.setCyc v).y = s.y := rfl
@[simp] theorem State.setCyc_sp (v : Nat) : (s.setCyc v).sp = s.sp := rfl
@[simp] theorem State.setCyc_p (v : Nat) : (s.setCyc v).p = s.p := rfl
@[simp] theorem State.setCyc_pc (v : Nat) : (s.setCyc v).pc = s.pc := rfl
@[simp] theorem State.setCyc_run (v : Nat) : (s.setCyc v).run = s.run := rfl
@[simp] theorem State.setCyc_ram (v : Nat) : (s.setCyc v).ram = s.ram := rfl
@[simp] theorem State.setCyc_sram (v : Nat) : (s.setCyc v).sram = s.sram := rfl
@[simp] theorem State.setCyc_prg (v : Nat) : (s.setCyc v).prg = s.prg := rfl
@[simp] theorem State.setCyc_ppu (v : Nat) : (s.setCyc v).ppu = s.ppu := rfl
@[simp] theorem State.setCyc_pad (v : Nat) : (s.setCyc v).pad = s.pad := rfl
@[simp] theorem State.setCyc_sched (v : Nat) : (s.setCyc v).sched = s.sched := rfl
@[simp] theorem State.setCyc_dmaStall (v : Nat) : (s.setCyc v).dmaStall = s.dmaStall := rfl
@[simp] theorem State.setCyc_cyc (v : Nat) : (s.setCyc v).cyc = v := rfl
@[simp] theorem State.setCyc_cfg (v : Nat) : (s.setCyc v).cfg = s.cfg := rfl

@[simp] theorem State.setCfg_a (v : Config) : (s.setCfg v).a = s.a := rfl
@[simp] theorem State.setCfg_x (v : Config) : (s.setCfg v).x = s.x := rfl
@[simp] theorem State.setCfg_y (v : Config) : (s.setCfg v).y = s.y := rfl
@[simp] theorem State.setCfg_sp (v : Config) : (s.setCfg v).sp = s.sp := rfl
@[simp] theorem State.setCfg_p (v : Config) : (s.setCfg v).p = s.p := rfl
@[simp] theorem State.setCfg_pc (v : Config) : (s.setCfg v).pc = s.pc := rfl
@[simp] theorem State.setCfg_run (v : Config) : (s.setCfg v).run = s.run := rfl
@[simp] theorem State.setCfg_ram (v : Config) : (s.setCfg v).ram = s.ram := rfl
@[simp] theorem State.setCfg_sram (v : Config) : (s.setCfg v).sram = s.sram := rfl
@[simp] theorem State.setCfg_prg (v : Config) : (s.setCfg v).prg = s.prg := rfl
@[simp] theorem State.setCfg_ppu (v : Config) : (s.setCfg v).ppu = s.ppu := rfl
@[simp] theorem State.setCfg_pad (v : Config) : (s.setCfg v).pad = s.pad := rfl
@[simp] theorem State.setCfg_sched (v : Config) : (s.setCfg v).sched = s.sched := rfl
@[simp] theorem State.setCfg_dmaStall (v : Config) : (s.setCfg v).dmaStall = s.dmaStall := rfl
@[simp] theorem State.setCfg_cyc (v : Config) : (s.setCfg v).cyc = s.cyc := rfl
@[simp] theorem State.setCfg_cfg (v : Config) : (s.setCfg v).cfg = v := rfl

@[simp] theorem State.halt_a (e : FatalError) : (s.halt e).a = s.a := rfl
@[simp] theorem State.halt_x (e : FatalError) : (s.halt e).x = s.x := rfl
@[simp] theorem State.halt_y (e : FatalError) : (s.halt e).y = s.y := rfl
@[simp] theorem State.halt_sp (e : FatalError) : (s.halt e).sp = s.sp := rfl
@[simp] theorem State.halt_p (e : FatalError) : (s.halt e).p = s.p := rfl
@[simp] theorem State.halt_pc (e : FatalError) : (s.halt e).pc = s.pc := rfl
@[simp] theorem State.halt_run (e : FatalError) : (s.halt e).run = .halted e := rfl
@[simp] theorem State.halt_ram (e : FatalError) : (s.halt e).ram = s.ram := rfl
@[simp] theorem State.halt_sram (e : FatalError) : (s.halt e).sram = s.sram := rfl
@[simp] theorem State.halt_prg (e : FatalError) : (s.halt e).prg = s.prg := rfl
@[simp] theorem State.halt_ppu (e : FatalError) : (s.halt e).ppu = s.ppu := rfl
@[simp] theorem State.halt_pad (e : FatalError) : (s.halt e).pad = s.pad := rfl
@[simp] theorem State.halt_sched (e : FatalError) : (s.halt e).sched = s.sched := rfl
@[simp] theorem State.halt_dmaStall (e : FatalError) : (s.halt e).dmaStall = s.dmaStall := rfl
@[simp] theorem State.halt_cyc (e : FatalError) : (s.halt e).cyc = s.cyc := rfl
@[simp] theorem State.halt_cfg (e : FatalError) : (s.halt e).cfg = s.cfg := rfl

@[simp] theorem push_a (v : Byte) : (push v s).a = s.a := rfl
@[simp] theorem push_x (v : Byte) : (push v s).x = s.x := rfl
@[simp] theorem push_y (v : Byte) : (push v s).y = s.y := rfl
@[simp] theorem push_sp (v : Byte) : (push v s).sp = s.sp - 1 := rfl
@[simp] theorem push_p (v : Byte) : (push v s).p = s.p := rfl
@[simp] theorem push_pc (v : Byte) : (push v s).pc = s.pc := rfl
@[simp] theorem push_run (v : Byte) : (push v s).run = s.run := rfl
@[simp] theorem push_ram (v : Byte) : (push v s).ram = s.ram.write (stackIndex s.sp) v := rfl
@[simp] theorem push_sram (v : Byte) : (push v s).sram = s.sram := rfl
@[simp] theorem push_prg (v : Byte) : (push v s).prg = s.prg := rfl
@[simp] theorem push_ppu (v : Byte) : (push v s).ppu = s.ppu := rfl
@[simp] theorem push_pad (v : Byte) : (push v s).pad = s.pad := rfl
@[simp] theorem push_sched (v : Byte) : (push v s).sched = s.sched := rfl
@[simp] theorem push_dmaStall (v : Byte) : (push v s).dmaStall = s.dmaStall := rfl
@[simp] theorem push_cyc (v : Byte) : (push v s).cyc = s.cyc := rfl
@[simp] theorem push_cfg (v : Byte) : (push v s).cfg = s.cfg := rfl

@[simp] theorem pop_a : (pop s).2.a = s.a := rfl
@[simp] theorem pop_x : (pop s).2.x = s.x := rfl
@[simp] theorem pop_y : (pop s).2.y = s.y := rfl
@[simp] theorem pop_sp : (pop s).2.sp = s.sp + 1 := rfl
@[simp] theorem pop_p : (pop s).2.p = s.p := rfl
@[simp] theorem pop_pc : (pop s).2.pc = s.pc := rfl
@[simp] theorem pop_run : (pop s).2.run = s.run := rfl
@[simp] theorem pop_ram : (pop s).2.ram = s.ram := rfl
@[simp] theorem pop_sram : (pop s).2.sram = s.sram := rfl
@[simp] theorem pop_prg : (pop s).2.prg = s.prg := rfl
@[simp] theorem pop_ppu : (pop s).2.ppu = s.ppu := rfl
@[simp] theorem pop_pad : (pop s).2.pad = s.pad := rfl
@[simp] theorem pop_sched : (pop s).2.sched = s.sched := rfl
@[simp] theorem pop_dmaStall : (pop s).2.dmaStall = s.dmaStall := rfl
@[simp] theorem pop_cyc : (pop s).2.cyc = s.cyc := rfl
@[simp] theorem pop_cfg : (pop s).2.cfg = s.cfg := rfl
@[simp] theorem pop_value : (pop s).1 = s.ram.read (stackIndex (s.sp + 1)) := rfl

end Sys2Proof.Machine
end

