-- ==== Sys2Proof/Laws/Bus.lean ====
section
/-! SUPPORT. The laws of the bus: the address map by ranges, everything a read and a write can do, and that they keep the
memories canonical. -/

namespace Sys2Proof.Machine

/-! ## The address map -/

theorem regionOf_eq_ram {a : Word} : regionOf a = .ram ↔ a.toNat ≤ 0x1FFF := by
  unfold regionOf
  split_ifs <;> simp_all [BitVec.le_def, ← BitVec.toNat_inj]

theorem regionOf_eq_ppu {a : Word} : regionOf a = .ppu ↔ 0x2000 ≤ a.toNat ∧ a.toNat ≤ 0x3FFF := by
  unfold regionOf
  split_ifs <;> simp_all [BitVec.le_def, ← BitVec.toNat_inj] <;> omega

theorem regionOf_eq_sram {a : Word} : regionOf a = .sram ↔ 0x6000 ≤ a.toNat ∧ a.toNat ≤ 0x7FFF := by
  unfold regionOf
  split_ifs <;> simp_all [BitVec.le_def, ← BitVec.toNat_inj] <;> omega

theorem regionOf_eq_prg {a : Word} : regionOf a = .prg ↔ 0x8000 ≤ a.toNat := by
  unfold regionOf
  split_ifs <;> simp_all [BitVec.le_def, ← BitVec.toNat_inj] <;> omega

theorem regionOf_eq_dma {a : Word} : regionOf a = .dma ↔ a = 0x4014#16 := by
  unfold regionOf
  split_ifs <;> simp_all [BitVec.le_def, ← BitVec.toNat_inj] <;> omega

theorem regionOf_eq_pad {a : Word} : regionOf a = .pad ↔ a = 0x4016#16 := by
  unfold regionOf
  split_ifs <;> simp_all [BitVec.le_def, ← BitVec.toNat_inj] <;> omega

theorem ramIndex_lt (a : Word) : ramIndex a < 2048 := by
  unfold ramIndex
  rw [BitVec.toNat_and]
  exact Nat.lt_of_le_of_lt Nat.and_le_right (by decide)

theorem ramIndex_eq_mod (a : Word) : ramIndex a = a.toNat % 2048 := by
  unfold ramIndex
  rw [BitVec.toNat_and]
  exact Nat.and_two_pow_sub_one_eq_mod _ 11

theorem sramIndex_lt {a : Word} (h : regionOf a = .sram) : sramIndex a < 8192 := by
  rw [regionOf_eq_sram] at h
  unfold sramIndex
  bv_omega

theorem stackIndex_lt (sp : Byte) : stackIndex sp < 2048 := by
  unfold stackIndex
  have := sp.isLt
  omega

theorem ntIndex_lt (m : Mirroring) (a : Word) : ntIndex m a < 2048 := by
  cases m
  · simp only [ntIndex, BitVec.toNat_and]
    exact Nat.lt_of_le_of_lt Nat.and_le_right (by decide)
  · simp only [ntIndex, BitVec.toNat_or, BitVec.toNat_and, BitVec.toNat_shiftLeft]
    refine Nat.or_lt_two_pow (n := 11) ?_ ?_
    · refine Nat.lt_of_le_of_lt (Nat.mod_le _ _) ?_
      rw [Nat.shiftLeft_eq]
      have : (((a - 0x2000#16 &&& 0x0FFF#16) >>> 11).toNat &&& (1#16).toNat) ≤ 1 := Nat.and_le_right
      omega
    · exact Nat.lt_of_le_of_lt Nat.and_le_right (by decide)

theorem palIndex_lt (a : Word) : palIndex a < 32 := by
  unfold palIndex
  dsimp only
  split
  · rw [BitVec.toNat_and]
    exact Nat.lt_of_le_of_lt Nat.and_le_right (by decide)
  · rw [BitVec.toNat_and]
    exact Nat.lt_of_le_of_lt Nat.and_le_right (by decide)

/-! ## The PPU port -/

/-- What no register read changes: the memories, the frame, PPUCTRL, PPUMASK, the latches and the sprite flags. -/
def SamePpuMemory (p q : Ppu) : Prop :=
  q.ciram = p.ciram ∧ q.palette = p.palette ∧ q.chr = p.chr ∧ q.oam = p.oam ∧ q.frame = p.frame ∧ q.ctrl = p.ctrl ∧
    q.mask = p.mask ∧ q.reg = p.reg ∧ q.regFH = p.regFH ∧ q.spr0Hit = p.spr0Hit ∧ q.sprOvf = p.sprOvf

theorem SamePpuMemory.rfl' (p : Ppu) : SamePpuMemory p p := by simp [SamePpuMemory]

theorem statusRead_same (p : Ppu) : SamePpuMemory p (statusRead p).2 := by simp [SamePpuMemory, statusRead]

theorem oamDataRead_same (p : Ppu) : SamePpuMemory p (oamDataRead p).2 := by simp [SamePpuMemory, oamDataRead]

theorem ppuDataRead_same (cfg : Config) (p : Ppu) : SamePpuMemory p (ppuDataRead cfg p).2 := by
  unfold ppuDataRead
  dsimp only
  split_ifs <;> simp [SamePpuMemory, incrementScrollCounters]

theorem SamePpuMemory.ppuMemoryOk {p q : Ppu} (h : SamePpuMemory p q) : ppuMemoryOk q = ppuMemoryOk p := by
  obtain ⟨h1, h2, h3, h4, -⟩ := h
  simp [Machine.ppuMemoryOk, h1, h2, h3, h4]

theorem ppuMemoryOk_ppuWrite {cfg : Config} {p : Ppu} (h : ppuMemoryOk p = true) (a : Word) (v : Byte) :
    ppuMemoryOk (ppuWrite cfg p a v) = true := by
  simp only [ppuMemoryOk, Bool.and_eq_true] at h
  obtain ⟨⟨⟨⟨⟨⟨⟨h1, h2⟩, h3⟩, h4⟩, h5⟩, h6⟩, h7⟩, h8⟩ := h
  unfold ppuWrite
  dsimp only
  have hc : (a &&& 0x3FFF#16) ≤ 0x1FFF#16 → (a &&& 0x3FFF#16).toNat < 8192 := by
    intro hle; rw [BitVec.le_def] at hle; exact Nat.lt_of_le_of_lt hle (by decide)
  split_ifs <;>
    simp_all [ppuMemoryOk, Memory.wf_write, Memory.fits_write, ntIndex_lt, palIndex_lt]

/-- The parts of the state no bus access changes. -/
structure SameOutside (s t : State) : Prop where
  a : t.a = s.a
  x : t.x = s.x
  y : t.y = s.y
  sp : t.sp = s.sp
  p : t.p = s.p
  pc : t.pc = s.pc
  run : t.run = s.run
  prg : t.prg = s.prg
  sched : t.sched = s.sched
  cyc : t.cyc = s.cyc
  cfg : t.cfg = s.cfg
  frame : t.ppu.frame = s.ppu.frame
  chrRom : s.cfg.chrRom = true → t.ppu.chr = s.ppu.chr

theorem SameOutside.rfl' (s : State) : SameOutside s s := by constructor <;> simp

theorem SameOutside.trans {s t u : State} (h : SameOutside s t) (k : SameOutside t u) : SameOutside s u where
  a := k.a.trans h.a
  x := k.x.trans h.x
  y := k.y.trans h.y
  sp := k.sp.trans h.sp
  p := k.p.trans h.p
  pc := k.pc.trans h.pc
  run := k.run.trans h.run
  prg := k.prg.trans h.prg
  sched := k.sched.trans h.sched
  cyc := k.cyc.trans h.cyc
  cfg := k.cfg.trans h.cfg
  frame := k.frame.trans h.frame
  chrRom := fun hr => (k.chrRom (by rw [h.cfg]; exact hr)).trans (h.chrRom hr)

theorem SameOutside.setRam (s : State) (m : Memory) : SameOutside s (s.setRam m) := by constructor <;> simp

theorem SameOutside.setSram (s : State) (m : Memory) : SameOutside s (s.setSram m) := by constructor <;> simp

theorem SameOutside.setPad (s : State) (d : Pad) : SameOutside s (s.setPad d) := by constructor <;> simp

theorem SameOutside.setDmaStall (s : State) (n : Nat) : SameOutside s (s.setDmaStall n) := by constructor <;> simp

theorem SameOutside.setPpu {s : State} {q : Ppu} (hf : q.frame = s.ppu.frame)
    (hc : s.cfg.chrRom = true → q.chr = s.ppu.chr) : SameOutside s (s.setPpu q) := by
  constructor <;> simp [hf]
  exact hc

/-! ## Canonical memories -/

theorem memoryOk_setPpu {s : State} (h : memoryOk s = true) {q : Ppu} (hq : ppuMemoryOk q = true) :
    memoryOk (s.setPpu q) = true := by
  simp_all [memoryOk]

theorem ppuMemoryOk_of_memoryOk {s : State} (h : memoryOk s = true) : ppuMemoryOk s.ppu = true := by
  simp_all [memoryOk]

theorem memoryOk_setRam {s : State} (h : memoryOk s = true) {i : Nat} (hi : i < 2048) (v : Byte) :
    memoryOk (s.setRam (s.ram.write i v)) = true := by
  simp_all [memoryOk, Memory.wf_write, Memory.fits_write]

theorem memoryOk_setSram {s : State} (h : memoryOk s = true) {i : Nat} (hi : i < 8192) (v : Byte) :
    memoryOk (s.setSram (s.sram.write i v)) = true := by
  simp_all [memoryOk, Memory.wf_write, Memory.fits_write]

theorem ppuMemoryOk_oamWrite {p : Ppu} (h : ppuMemoryOk p = true) {i : Nat} (hi : i < 256) (v : Byte) :
    ppuMemoryOk { p with oam := p.oam.write i v } = true := by
  simp_all [ppuMemoryOk, Memory.wf_write, Memory.fits_write]

/-! ## What an access keeps -/

/-- What the state an access ends in keeps, whether the access completed or was fatal. -/
def AccessKeeps {α : Type} (s : State) : Access α → Prop
  | .ok _ t => SameOutside s t ∧ (memoryOk s = true → memoryOk t = true)
  | .fatal _ t => SameOutside s t ∧ (memoryOk s = true → memoryOk t = true)

/-- A step of the PPU port keeps what an access keeps if it keeps the frame, CHR-ROM and the canonical form. -/
theorem accessKeeps_setPpu {α : Type} (v : α) {s : State} {q : Ppu} (hf : q.frame = s.ppu.frame)
    (hc : s.cfg.chrRom = true → q.chr = s.ppu.chr) (hm : ppuMemoryOk s.ppu = true → ppuMemoryOk q = true) :
    AccessKeeps s (.ok v (s.setPpu q)) :=
  ⟨SameOutside.setPpu hf hc, fun h => memoryOk_setPpu h (hm (ppuMemoryOk_of_memoryOk h))⟩

theorem accessKeeps_same {α : Type} (v : α) (s : State) : AccessKeeps s (.ok v s) := ⟨SameOutside.rfl' s, id⟩

theorem ppuRegRead_keeps (a : Word) (s : State) : AccessKeeps s (ppuRegRead a s) := by
  unfold ppuRegRead
  split
  · have h := statusRead_same s.ppu
    exact accessKeeps_setPpu _ h.2.2.2.2.1 (fun _ => h.2.2.1) (fun hm => by rw [h.ppuMemoryOk]; exact hm)
  · have h := oamDataRead_same s.ppu
    exact accessKeeps_setPpu _ h.2.2.2.2.1 (fun _ => h.2.2.1) (fun hm => by rw [h.ppuMemoryOk]; exact hm)
  · have h := ppuDataRead_same s.cfg s.ppu
    exact accessKeeps_setPpu _ h.2.2.2.2.1 (fun _ => h.2.2.1) (fun hm => by rw [h.ppuMemoryOk]; exact hm)
  · exact ⟨SameOutside.rfl' s, id⟩

theorem scrollWrite_memory (v : Byte) (p : Ppu) : ppuMemoryOk (scrollWrite v p) = ppuMemoryOk p ∧
    (scrollWrite v p).frame = p.frame ∧ (scrollWrite v p).chr = p.chr := by
  unfold scrollWrite
  split_ifs <;> exact ⟨rfl, rfl, rfl⟩

theorem addrWrite_memory (v : Byte) (p : Ppu) : ppuMemoryOk (addrWrite v p) = ppuMemoryOk p ∧
    (addrWrite v p).frame = p.frame ∧ (addrWrite v p).chr = p.chr := by
  unfold addrWrite
  split_ifs <;> exact ⟨rfl, rfl, rfl⟩

theorem ppuWrite_frame (cfg : Config) (p : Ppu) (a : Word) (v : Byte) : (ppuWrite cfg p a v).frame = p.frame := by
  unfold ppuWrite
  dsimp only
  split_ifs <;> rfl

theorem ppuWrite_chrRom {cfg : Config} (h : cfg.chrRom = true) (p : Ppu) (a : Word) (v : Byte) :
    (ppuWrite cfg p a v).chr = p.chr := by
  unfold ppuWrite
  dsimp only
  split_ifs <;> rfl

theorem ppuRegWrite_keeps (a : Word) (v : Byte) (s : State) : AccessKeeps s (ppuRegWrite a v s) := by
  unfold ppuRegWrite
  split
  · exact accessKeeps_setPpu _ rfl (fun _ => rfl) id
  · exact accessKeeps_setPpu _ rfl (fun _ => rfl) id
  · exact accessKeeps_setPpu _ rfl (fun _ => rfl) id
  · exact accessKeeps_setPpu _ rfl (fun _ => rfl) fun hm =>
      (ppuMemoryOk_oamWrite hm s.ppu.oamAddr.isLt v : ppuMemoryOk { s.ppu with oam := _ } = true)
  · have h := scrollWrite_memory v s.ppu
    exact accessKeeps_setPpu _ h.2.1 (fun _ => h.2.2) (fun hm => by rw [h.1]; exact hm)
  · have h := addrWrite_memory v s.ppu
    exact accessKeeps_setPpu _ h.2.1 (fun _ => h.2.2) (fun hm => by rw [h.1]; exact hm)
  · exact accessKeeps_setPpu _ (ppuWrite_frame ..) (fun hr => ppuWrite_chrRom hr ..)
      fun hm => ppuMemoryOk_ppuWrite hm _ _
  · exact ⟨SameOutside.rfl' s, id⟩

/-- Everything a bus read can do, completed or fatal. -/
theorem busRead_keeps (a : Word) (s : State) : AccessKeeps s (busRead a s) := by
  unfold busRead
  split
  case h_2 => exact ppuRegRead_keeps a s
  case h_3 => exact ⟨SameOutside.setPad s _, fun h => by simpa [memoryOk] using h⟩
  all_goals exact accessKeeps_same _ s

/-- A completed bus read also leaves RAM, SRAM, the stall and the PPU memories as they were. -/
theorem busRead_memory {a : Word} {v : Byte} {s t : State} (h : busRead a s = .ok v t) :
    t.ram = s.ram ∧ t.sram = s.sram ∧ t.dmaStall = s.dmaStall ∧ SamePpuMemory s.ppu t.ppu := by
  unfold busRead at h
  split at h
  case h_2 =>
    unfold ppuRegRead at h
    split at h <;> cases h
    · exact ⟨rfl, rfl, rfl, statusRead_same _⟩
    · exact ⟨rfl, rfl, rfl, oamDataRead_same _⟩
    · exact ⟨rfl, rfl, rfl, ppuDataRead_same _ _⟩
  all_goals cases h; exact ⟨rfl, rfl, rfl, SamePpuMemory.rfl' _⟩

/-- A fatal bus read changes nothing, and the error names the access. -/
theorem busRead_fatal {a : Word} {s t : State} {x : IoError} (h : busRead a s = .fatal x t) :
    t = s ∧ x = { addr := a, dir := .read } ∧ regionOf a = .ppu := by
  unfold busRead at h
  split at h
  case h_2 hr =>
    unfold ppuRegRead at h
    split at h <;> cases h
    exact ⟨rfl, rfl, hr⟩
  all_goals cases h

/-- A read with no side effect gives what `peek` gives and leaves the state. -/
theorem busRead_of_peek {a : Word} {v : Byte} {s : State} (h : peek s a = some v) : busRead a s = .ok v s := by
  unfold peek at h
  unfold busRead
  split at h <;> simp_all

theorem storeOamByte_keeps (i : Nat) (b : Byte) (s : State) :
    SameOutside s (storeOamByte i b s) ∧ (memoryOk s = true → memoryOk (storeOamByte i b s) = true) :=
  accessKeeps_setPpu () rfl (fun _ => rfl) fun hm =>
    ppuMemoryOk_oamWrite hm (BitVec.isLt (s.ppu.oamAddr + BitVec.ofNat 8 i)) b

theorem AccessKeeps.after {α : Type} {s t : State} {r : Access α}
    (h : SameOutside s t ∧ (memoryOk s = true → memoryOk t = true)) (k : AccessKeeps t r) : AccessKeeps s r := by
  cases r <;> exact ⟨h.1.trans k.1, fun hm => k.2 (h.2 hm)⟩

theorem oamDmaCopy_keeps (page : Byte) (l : List Nat) (s : State) : AccessKeeps s (oamDmaCopy page l s) := by
  induction l generalizing s with
  | nil => exact accessKeeps_same _ s
  | cons i l ih =>
    unfold oamDmaCopy
    have hr := busRead_keeps (mkWord page (BitVec.ofNat 8 i)) s
    cases h : busRead (mkWord page (BitVec.ofNat 8 i)) s with
    | fatal x t => rw [h] at hr; exact hr
    | ok b t =>
      rw [h] at hr
      exact AccessKeeps.after hr (AccessKeeps.after (storeOamByte_keeps i b t) (ih _))

theorem oamDma_keeps (page : Byte) (s : State) : AccessKeeps s (oamDma page s) := by
  unfold oamDma
  have h := oamDmaCopy_keeps page (List.range 256) s
  cases h2 : oamDmaCopy page (List.range 256) s with
  | ok w u =>
    rw [h2] at h
    exact AccessKeeps.after (r := .ok () _) h ⟨SameOutside.setDmaStall u _, fun hm => by simpa [memoryOk] using hm⟩
  | fatal x u => rw [h2] at h; exact h

/-- Everything a bus write can do, completed or fatal: it changes at most RAM, SRAM, the PPU, the controller and the
stall, never the frame nor CHR-ROM, and keeps the memories canonical. -/
theorem busWrite_keeps (a : Word) (v : Byte) (s : State) : AccessKeeps s (busWrite a v s) := by
  unfold busWrite
  split
  case h_1 => exact ⟨SameOutside.setRam s _, fun h => memoryOk_setRam h (ramIndex_lt a) v⟩
  case h_2 => exact ppuRegWrite_keeps a v s
  case h_3 => exact oamDma_keeps v s
  case h_4 => exact ⟨SameOutside.setPad s _, fun h => by simpa [memoryOk] using h⟩
  case h_7 hr => exact ⟨SameOutside.setSram s _, fun h => memoryOk_setSram h (sramIndex_lt hr) v⟩
  all_goals exact accessKeeps_same _ s

end Sys2Proof.Machine
end

