-- ==== Sys2Proof/Laws/Flags.lean ====
section
/-! SUPPORT. The laws of the status register: reading a field after writing one, and that the writers keep U = 1 and B = 0. -/

namespace Sys2Proof.Machine

@[simp] theorem getFlag_putFlag_same (f : Flag) (b : Bool) (p : Byte) : getFlag f (putFlag f b p) = b := by
  cases f <;> cases b <;> simp [getFlag, putFlag, Flag.bit]

theorem getFlag_putFlag_other {f g : Flag} (h : g ≠ f) (b : Bool) (p : Byte) :
    getFlag g (putFlag f b p) = getFlag g p := by
  cases f <;> cases g <;> first | exact absurd rfl h | (cases b <;> simp [getFlag, putFlag, Flag.bit])

theorem getFlag_putFlag (f g : Flag) (b : Bool) (p : Byte) :
    getFlag g (putFlag f b p) = if g = f then b else getFlag g p := by
  split_ifs with h
  · subst h; exact getFlag_putFlag_same ..
  · exact getFlag_putFlag_other h b p

theorem statusOk_putFlag {f : Flag} (hb : f ≠ .b) (hu : f ≠ .u) (b : Bool) {p : Byte} (h : statusOk p = true) :
    statusOk (putFlag f b p) = true := by
  revert p
  cases f <;> first | exact absurd rfl hb | exact absurd rfl hu | (cases b <;> decide)

theorem statusOk_setNZ (v : Byte) {p : Byte} (h : statusOk p = true) : statusOk (setNZ v p) = true :=
  statusOk_putFlag (by decide) (by decide) _ (statusOk_putFlag (by decide) (by decide) _ h)

theorem statusOk_adcFlags (a m : Byte) {p : Byte} (h : statusOk p = true) : statusOk (adcFlags a m p) = true :=
  statusOk_setNZ _ (statusOk_putFlag (by decide) (by decide) _ (statusOk_putFlag (by decide) (by decide) _ h))

theorem statusOk_sbcFlags (a m : Byte) {p : Byte} (h : statusOk p = true) : statusOk (sbcFlags a m p) = true :=
  statusOk_setNZ _ (statusOk_putFlag (by decide) (by decide) _ (statusOk_putFlag (by decide) (by decide) _ h))

theorem statusOk_compareFlags (r m : Byte) {p : Byte} (h : statusOk p = true) :
    statusOk (compareFlags r m p) = true :=
  statusOk_setNZ _ (statusOk_putFlag (by decide) (by decide) _ h)

theorem statusOk_bitFlags (a m : Byte) {p : Byte} (h : statusOk p = true) : statusOk (bitFlags a m p) = true :=
  statusOk_putFlag (by decide) (by decide) _
    (statusOk_putFlag (by decide) (by decide) _ (statusOk_putFlag (by decide) (by decide) _ h))

theorem statusOk_statusFromStack (v : Byte) : statusOk (statusFromStack v) = true := by
  revert v; decide

end Sys2Proof.Machine
end

