-- ==== Sys2Proof/Laws/Ops.lean ====
section
/-! SUPPORT. The laws of the stack, the vectors, interrupt entry and return, and the reset sequence. -/

namespace Sys2Proof.Machine

/-! ## The stack and the vectors are bus accesses -/

theorem stackAddress_toNat (sp : Byte) : (0x0100#16 + zext16 sp).toNat = 0x0100 + sp.toNat := by
  unfold zext16
  bv_omega

theorem regionOf_stack (sp : Byte) : regionOf (0x0100#16 + zext16 sp) = .ram := by
  rw [regionOf_eq_ram, stackAddress_toNat]
  omega

theorem ramIndex_stack (sp : Byte) : ramIndex (0x0100#16 + zext16 sp) = stackIndex sp := by
  rw [ramIndex_eq_mod, stackAddress_toNat]
  unfold stackIndex
  omega

/-- `Push` is the bus write of R180 followed by the decrement. -/
theorem push_is_busWrite (v : Byte) (s : State) :
    busWrite (0x0100#16 + zext16 s.sp) v s = .ok () ((push v s).setSp s.sp) := by
  simp [busWrite, regionOf_stack, ramIndex_stack, push, State.setSp, State.setRam]

/-- `Pop` is the increment followed by the bus read of R181. -/
theorem pop_is_busRead (s : State) : busRead (0x0100#16 + zext16 (pop s).2.sp) (pop s).2 = .ok (pop s).1 (pop s).2 := by
  simp [busRead, regionOf_stack, ramIndex_stack]

/-- A vector is two bus reads of PRG (R80, R83). -/
theorem readVector_is_busRead (s : State) {v : Word} (h : 0x8000 ≤ v.toNat) (h1 : 0x8000 ≤ (v + 1).toNat) :
    busRead v s = .ok (s.prgByte v) s ∧ busRead (v + 1) s = .ok (s.prgByte (v + 1)) s := by
  constructor
  · unfold busRead; rw [regionOf_eq_prg.mpr h]
  · unfold busRead; rw [regionOf_eq_prg.mpr h1]

/-- Page zero is RAM: the pointer bytes of R151 and R152 are bus reads without side effects. -/
theorem zeroPage_is_busRead (b : Byte) (s : State) : busRead (zext16 b) s = .ok (s.ram.read b.toNat) s := by
  have hb : (zext16 b).toNat = b.toNat := by unfold zext16; bv_omega
  have hr : regionOf (zext16 b) = .ram := by rw [regionOf_eq_ram, hb]; have := b.isLt; omega
  have hi : ramIndex (zext16 b) = b.toNat := by rw [ramIndex_eq_mod, hb]; have := b.isLt; omega
  simp [busRead, hr, hi]

/-! ## What the operations keep -/

/-- What every instruction keeps of the state it starts in. -/
structure InstrKeeps (s t : State) : Prop where
  cfg : t.cfg = s.cfg
  prg : t.prg = s.prg
  sched : t.sched = s.sched
  frame : t.ppu.frame = s.ppu.frame
  chrRom : s.cfg.chrRom = true → t.ppu.chr = s.ppu.chr
  memory : memoryOk s = true → memoryOk t = true
  status : statusOk s.p = true → statusOk t.p = true

theorem InstrKeeps.rfl' (s : State) : InstrKeeps s s := by constructor <;> simp

theorem InstrKeeps.trans {s t u : State} (h : InstrKeeps s t) (k : InstrKeeps t u) : InstrKeeps s u where
  cfg := k.cfg.trans h.cfg
  prg := k.prg.trans h.prg
  sched := k.sched.trans h.sched
  frame := k.frame.trans h.frame
  chrRom := fun hr => (k.chrRom (by rw [h.cfg]; exact hr)).trans (h.chrRom hr)
  memory := k.memory ∘ h.memory
  status := k.status ∘ h.status

theorem InstrKeeps.of_access {s t : State} (h : SameOutside s t ∧ (memoryOk s = true → memoryOk t = true)) :
    InstrKeeps s t where
  cfg := h.1.cfg
  prg := h.1.prg
  sched := h.1.sched
  frame := h.1.frame
  chrRom := h.1.chrRom
  memory := h.2
  status := fun hs => by rw [h.1.p]; exact hs

theorem InstrKeeps.setA (s : State) (v : Byte) : InstrKeeps s (s.setA v) := by constructor <;> simp [memoryOk]
theorem InstrKeeps.setX (s : State) (v : Byte) : InstrKeeps s (s.setX v) := by constructor <;> simp [memoryOk]
theorem InstrKeeps.setY (s : State) (v : Byte) : InstrKeeps s (s.setY v) := by constructor <;> simp [memoryOk]
theorem InstrKeeps.setSp (s : State) (v : Byte) : InstrKeeps s (s.setSp v) := by constructor <;> simp [memoryOk]
theorem InstrKeeps.setPc (s : State) (v : Word) : InstrKeeps s (s.setPc v) := by constructor <;> simp [memoryOk]
theorem InstrKeeps.setRun (s : State) (v : RunState) : InstrKeeps s (s.setRun v) := by constructor <;> simp [memoryOk]
theorem InstrKeeps.setCyc (s : State) (n : Nat) : InstrKeeps s (s.setCyc n) := by constructor <;> simp [memoryOk]
theorem InstrKeeps.halt (s : State) (e : FatalError) : InstrKeeps s (s.halt e) := by constructor <;> simp [memoryOk]
theorem InstrKeeps.setDmaStall (s : State) (n : Nat) : InstrKeeps s (s.setDmaStall n) := by
  constructor <;> simp [memoryOk]

theorem InstrKeeps.setP (s : State) {v : Byte} (h : statusOk s.p = true → statusOk v = true) :
    InstrKeeps s (s.setP v) := by
  constructor <;> simp [memoryOk]
  exact h

theorem push_keeps (v : Byte) (s : State) : InstrKeeps s (push v s) where
  cfg := by simp
  prg := by simp
  sched := by simp
  frame := by simp
  chrRom := by simp
  memory := fun hm => by
    have h := memoryOk_setRam hm (stackIndex_lt s.sp) v
    simpa [memoryOk] using h
  status := by simp

theorem pop_keeps (s : State) : InstrKeeps s (pop s).2 := InstrKeeps.setSp s _

theorem push16_keeps (w : Word) (s : State) : InstrKeeps s (push16 w s) := (push_keeps _ s).trans (push_keeps _ _)

theorem pop16_keeps (s : State) : InstrKeeps s (pop16 s).2 := (pop_keeps s).trans (pop_keeps _)

theorem enterInterrupt_keeps (r : Word) (st : Byte) (v : Word) (s : State) : InstrKeeps s (enterInterrupt r st v s) := by
  unfold enterInterrupt
  have h := (push16_keeps r s).trans (push_keeps st (push16 r s))
  exact (h.trans (InstrKeeps.setP _ (statusOk_putFlag (by decide) (by decide) true))).trans (InstrKeeps.setPc _ _)

theorem returnFromInterrupt_keeps (s : State) : InstrKeeps s (returnFromInterrupt s) := by
  unfold returnFromInterrupt
  have h := (pop_keeps s).trans (InstrKeeps.setP (pop s).2 fun _ => statusOk_statusFromStack (pop s).1)
  exact (h.trans (pop16_keeps _)).trans (InstrKeeps.setPc _ _)

/-! ## Interrupt entry, field by field -/

theorem enterInterrupt_sp (r : Word) (st : Byte) (v : Word) (s : State) :
    (enterInterrupt r st v s).sp = s.sp - 3 := by
  simp only [enterInterrupt, push16, State.setPc_sp, State.setP_sp, push_sp]
  bv_omega

theorem enterInterrupt_p (r : Word) (st : Byte) (v : Word) (s : State) :
    (enterInterrupt r st v s).p = putFlag .i true s.p := by
  simp [enterInterrupt, push16]

theorem enterInterrupt_pc (r : Word) (st : Byte) (v : Word) (s : State) :
    (enterInterrupt r st v s).pc = readVector v s := by
  simp [enterInterrupt, push16, readVector, State.prgByte]

theorem enterInterrupt_ppu (r : Word) (st : Byte) (v : Word) (s : State) :
    (enterInterrupt r st v s).ppu = s.ppu := by
  simp [enterInterrupt, push16]

theorem enterInterrupt_run (r : Word) (st : Byte) (v : Word) (s : State) :
    (enterInterrupt r st v s).run = s.run := by
  simp [enterInterrupt, push16]

/-- The bytes of the stack after an entry. -/
theorem enterInterrupt_ram (r : Word) (st : Byte) (v : Word) (s : State) :
    (enterInterrupt r st v s).ram =
      ((s.ram.write (stackIndex s.sp) (hiByte r)).write (stackIndex (s.sp - 1)) (loByte r)).write
        (stackIndex (s.sp - 1 - 1)) st := by
  simp [enterInterrupt, push16]

theorem stackIndex_inj {a b : Byte} : stackIndex a = stackIndex b ↔ a = b := by
  unfold stackIndex
  rw [← BitVec.toNat_inj]
  omega

/-- The reset sequence puts the power-on values of R430 into the CPU, whatever the configuration and the draws. -/
theorem resetCpu_powerOn (cfg : Config) (m : PowerOnImage) : resetCpu (State.powerOn cfg m) = State.powerOn cfg m := rfl

end Sys2Proof.Machine
end

