-- ==== Sys2Proof/Laws/Exec.lean ====
section
/-! SUPPORT. One equation per shape of instruction and outcome of its accesses, and what each shape can do. -/

namespace Sys2Proof.Machine

/-! ## The shapes, outcome by outcome -/

theorem execRead_ok {i : Instr} {m : MemMode} {f : Byte → State → State} {s t : State} {v : Byte}
    (h : busRead (m.ea s) s = .ok v t) :
    execRead i m f s = finish i (crossCycles i (m.crossed s) t.cfg) (f v t) := by
  simp only [execRead, h]

theorem execRead_fatal {i : Instr} {m : MemMode} {f : Byte → State → State} {s t : State} {x : IoError}
    (h : busRead (m.ea s) s = .fatal x t) : execRead i m f s = raiseIo i s.pc x t := by
  simp only [execRead, h]

theorem execStore_ok {i : Instr} {m : MemMode} {s t : State} {v : Byte} {w : Unit}
    (h : busWrite (m.ea s) v s = .ok w t) :
    execStore i m v s = finish i (crossCycles i (m.crossed s) t.cfg) t := by
  simp only [execStore, h]

theorem execStore_fatal {i : Instr} {m : MemMode} {s t : State} {v : Byte} {x : IoError}
    (h : busWrite (m.ea s) v s = .fatal x t) : execStore i m v s = raiseIo i s.pc x t := by
  simp only [execStore, h]

theorem execModify_ok {i : Instr} {m : MemMode} {f : Byte → Byte → Byte × Byte} {s t u : State} {v : Byte} {w : Unit}
    (h : busRead (m.ea s) s = .ok v t) (k : busWrite (m.ea s) (f v t.p).1 (t.setP (f v t.p).2) = .ok w u) :
    execModify i m f s =
      finish i (crossCycles i (m.crossed s) u.cfg) (u.setP (setNZ (f v t.p).1 u.p)) := by
  simp only [execModify, h, k]

theorem execModify_readFatal {i : Instr} {m : MemMode} {f : Byte → Byte → Byte × Byte} {s t : State} {x : IoError}
    (h : busRead (m.ea s) s = .fatal x t) : execModify i m f s = raiseIo i s.pc x t := by
  simp only [execModify, h]

theorem execModify_writeFatal {i : Instr} {m : MemMode} {f : Byte → Byte → Byte × Byte} {s t u : State} {v : Byte}
    {x : IoError} (h : busRead (m.ea s) s = .ok v t)
    (k : busWrite (m.ea s) (f v t.p).1 (t.setP (f v t.p).2) = .fatal x u) :
    execModify i m f s = raiseIo i s.pc x u := by
  simp only [execModify, h, k]

/-! ## What a shape can do -/

/-- An instruction answers a next state that keeps what every instruction keeps. -/
def Answers (s : State) (r : Host.Outcome State Fault Refusal) : Prop := ∃ t, r = .next t ∧ InstrKeeps s t

theorem finish_answers (i : Instr) (n : Nat) {s t : State} (h : InstrKeeps s t) : Answers s (finish i n t) :=
  ⟨_, rfl, h.trans (InstrKeeps.setCyc t _)⟩

theorem raiseIo_answers (i : Instr) (pc : Word) (x : IoError) {s t : State} (h : InstrKeeps s t) :
    Answers s (raiseIo i pc x t) :=
  ⟨_, rfl, h.trans (InstrKeeps.halt t _)⟩

theorem execImplied_answers (i : Instr) {f : State → State} {s : State} (hf : InstrKeeps s (f s)) :
    Answers s (execImplied i f s) := finish_answers i 0 hf

theorem execImmediate_answers (i : Instr) {v : Byte} {f : Byte → State → State} {s : State}
    (hf : ∀ v t, InstrKeeps t (f v t)) : Answers s (execImmediate i v f s) := finish_answers i 0 (hf v s)

theorem execRead_answers (i : Instr) (m : MemMode) {f : Byte → State → State} (s : State)
    (hf : ∀ v t, InstrKeeps t (f v t)) : Answers s (execRead i m f s) := by
  have hk := busRead_keeps (m.ea s) s
  cases h : busRead (m.ea s) s with
  | ok v t => rw [h] at hk; rw [execRead_ok h]; exact finish_answers i _ ((InstrKeeps.of_access hk).trans (hf v t))
  | fatal x t => rw [h] at hk; rw [execRead_fatal h]; exact raiseIo_answers i _ x (InstrKeeps.of_access hk)

theorem execStore_answers (i : Instr) (m : MemMode) (v : Byte) (s : State) : Answers s (execStore i m v s) := by
  have hk := busWrite_keeps (m.ea s) v s
  cases h : busWrite (m.ea s) v s with
  | ok w t => rw [h] at hk; rw [execStore_ok h]; exact finish_answers i _ (InstrKeeps.of_access hk)
  | fatal x t => rw [h] at hk; rw [execStore_fatal h]; exact raiseIo_answers i _ x (InstrKeeps.of_access hk)

theorem execModify_answers (i : Instr) (m : MemMode) {f : Byte → Byte → Byte × Byte} (s : State)
    (hf : ∀ v p, statusOk p = true → statusOk (f v p).2 = true) : Answers s (execModify i m f s) := by
  have hk := busRead_keeps (m.ea s) s
  cases h : busRead (m.ea s) s with
  | fatal x t => rw [h] at hk; rw [execModify_readFatal h]; exact raiseIo_answers i _ x (InstrKeeps.of_access hk)
  | ok v t =>
    rw [h] at hk
    have h1 := (InstrKeeps.of_access hk).trans (InstrKeeps.setP t (hf v t.p))
    have hw := busWrite_keeps (m.ea s) (f v t.p).1 (t.setP (f v t.p).2)
    cases k : busWrite (m.ea s) (f v t.p).1 (t.setP (f v t.p).2) with
    | fatal x u =>
      rw [k] at hw; rw [execModify_writeFatal h k]
      exact raiseIo_answers i _ x (h1.trans (InstrKeeps.of_access hw))
    | ok w u =>
      rw [k] at hw; rw [execModify_ok h k]
      exact finish_answers i _ ((h1.trans (InstrKeeps.of_access hw)).trans (InstrKeeps.setP u (statusOk_setNZ _)))

theorem execAccumulator_answers (i : Instr) {f : Byte → Byte → Byte × Byte} (s : State)
    (hf : ∀ v p, statusOk p = true → statusOk (f v p).2 = true) : Answers s (execAccumulator i f s) :=
  finish_answers i 0 ((InstrKeeps.setA s _).trans (InstrKeeps.setP _ fun h => statusOk_setNZ _ (hf s.a s.p h)))

theorem execBranch_answers (i : Instr) (d : Byte) (c : Bool) (s : State) : Answers s (execBranch i d c s) := by
  unfold execBranch
  refine finish_answers i _ ?_
  split_ifs
  · exact InstrKeeps.setPc s _
  · exact InstrKeeps.rfl' s

theorem execJumpIndirect_answers (i : Instr) (w : Word) (s : State) : Answers s (execJumpIndirect i w s) := by
  unfold execJumpIndirect
  have hk := busRead_keeps w s
  cases h : busRead w s with
  | fatal x t => rw [h] at hk; exact raiseIo_answers i _ x (InstrKeeps.of_access hk)
  | ok lo t =>
    rw [h] at hk
    have hl := busRead_keeps (pointerHighAddress w) t
    simp only
    cases k : busRead (pointerHighAddress w) t with
    | fatal x u => rw [k] at hl; exact raiseIo_answers i _ x ((InstrKeeps.of_access hk).trans (InstrKeeps.of_access hl))
    | ok hi u =>
      rw [k] at hl
      exact finish_answers i 0
        (((InstrKeeps.of_access hk).trans (InstrKeeps.of_access hl)).trans (InstrKeeps.setPc u _))

end Sys2Proof.Machine
end

