-- ==== Sys2Proof/Laws/Dispatch.lean ====
section
/-! SUPPORT. The meaning of each instruction as its shape: one equation per constructor, so that a proof about an
instruction starts from the shape's laws (Laws/Exec.lean) and never unfolds the dispatch. -/

namespace Sys2Proof.Machine

theorem exec_ldaImm (s : State) (v : Byte) : exec (.ldaImm v) s = execImmediate (.ldaImm v) v ldaOp s := rfl
theorem exec_ldaZp (s : State) (b : Byte) : exec (.ldaZp b) s = execRead (.ldaZp b) (.zp b) ldaOp s := rfl
theorem exec_ldaZpx (s : State) (b : Byte) : exec (.ldaZpx b) s = execRead (.ldaZpx b) (.zpx b) ldaOp s := rfl
theorem exec_ldaAbs (s : State) (w : Word) : exec (.ldaAbs w) s = execRead (.ldaAbs w) (.abs w) ldaOp s := rfl
theorem exec_ldaAbsx (s : State) (w : Word) : exec (.ldaAbsx w) s = execRead (.ldaAbsx w) (.absx w) ldaOp s := rfl
theorem exec_ldaAbsy (s : State) (w : Word) : exec (.ldaAbsy w) s = execRead (.ldaAbsy w) (.absy w) ldaOp s := rfl
theorem exec_ldaIndx (s : State) (b : Byte) : exec (.ldaIndx b) s = execRead (.ldaIndx b) (.indx b) ldaOp s := rfl
theorem exec_ldaIndy (s : State) (b : Byte) : exec (.ldaIndy b) s = execRead (.ldaIndy b) (.indy b) ldaOp s := rfl
theorem exec_ldxImm (s : State) (v : Byte) : exec (.ldxImm v) s = execImmediate (.ldxImm v) v ldxOp s := rfl
theorem exec_ldxZp (s : State) (b : Byte) : exec (.ldxZp b) s = execRead (.ldxZp b) (.zp b) ldxOp s := rfl
theorem exec_ldxZpy (s : State) (b : Byte) : exec (.ldxZpy b) s = execRead (.ldxZpy b) (.zpy b) ldxOp s := rfl
theorem exec_ldxAbs (s : State) (w : Word) : exec (.ldxAbs w) s = execRead (.ldxAbs w) (.abs w) ldxOp s := rfl
theorem exec_ldxAbsy (s : State) (w : Word) : exec (.ldxAbsy w) s = execRead (.ldxAbsy w) (.absy w) ldxOp s := rfl
theorem exec_ldyImm (s : State) (v : Byte) : exec (.ldyImm v) s = execImmediate (.ldyImm v) v ldyOp s := rfl
theorem exec_ldyZp (s : State) (b : Byte) : exec (.ldyZp b) s = execRead (.ldyZp b) (.zp b) ldyOp s := rfl
theorem exec_ldyZpx (s : State) (b : Byte) : exec (.ldyZpx b) s = execRead (.ldyZpx b) (.zpx b) ldyOp s := rfl
theorem exec_ldyAbs (s : State) (w : Word) : exec (.ldyAbs w) s = execRead (.ldyAbs w) (.abs w) ldyOp s := rfl
theorem exec_ldyAbsx (s : State) (w : Word) : exec (.ldyAbsx w) s = execRead (.ldyAbsx w) (.absx w) ldyOp s := rfl
theorem exec_staZp (s : State) (b : Byte) : exec (.staZp b) s = execStore (.staZp b) (.zp b) s.a s := rfl
theorem exec_staZpx (s : State) (b : Byte) : exec (.staZpx b) s = execStore (.staZpx b) (.zpx b) s.a s := rfl
theorem exec_staAbs (s : State) (w : Word) : exec (.staAbs w) s = execStore (.staAbs w) (.abs w) s.a s := rfl
theorem exec_staAbsx (s : State) (w : Word) : exec (.staAbsx w) s = execStore (.staAbsx w) (.absx w) s.a s := rfl
theorem exec_staAbsy (s : State) (w : Word) : exec (.staAbsy w) s = execStore (.staAbsy w) (.absy w) s.a s := rfl
theorem exec_staIndx (s : State) (b : Byte) : exec (.staIndx b) s = execStore (.staIndx b) (.indx b) s.a s := rfl
theorem exec_staIndy (s : State) (b : Byte) : exec (.staIndy b) s = execStore (.staIndy b) (.indy b) s.a s := rfl
theorem exec_stxZp (s : State) (b : Byte) : exec (.stxZp b) s = execStore (.stxZp b) (.zp b) s.x s := rfl
theorem exec_stxZpy (s : State) (b : Byte) : exec (.stxZpy b) s = execStore (.stxZpy b) (.zpy b) s.x s := rfl
theorem exec_stxAbs (s : State) (w : Word) : exec (.stxAbs w) s = execStore (.stxAbs w) (.abs w) s.x s := rfl
theorem exec_styZp (s : State) (b : Byte) : exec (.styZp b) s = execStore (.styZp b) (.zp b) s.y s := rfl
theorem exec_styZpx (s : State) (b : Byte) : exec (.styZpx b) s = execStore (.styZpx b) (.zpx b) s.y s := rfl
theorem exec_styAbs (s : State) (w : Word) : exec (.styAbs w) s = execStore (.styAbs w) (.abs w) s.y s := rfl
theorem exec_tax (s : State) : exec .tax s = execImplied .tax taxOp s := rfl
theorem exec_tay (s : State) : exec .tay s = execImplied .tay tayOp s := rfl
theorem exec_tsx (s : State) : exec .tsx s = execImplied .tsx tsxOp s := rfl
theorem exec_txa (s : State) : exec .txa s = execImplied .txa txaOp s := rfl
theorem exec_txs (s : State) : exec .txs s = execImplied .txs txsOp s := rfl
theorem exec_tya (s : State) : exec .tya s = execImplied .tya tyaOp s := rfl
theorem exec_pha (s : State) : exec .pha s = execImplied .pha phaOp s := rfl
theorem exec_php (s : State) : exec .php s = execImplied .php phpOp s := rfl
theorem exec_pla (s : State) : exec .pla s = execImplied .pla plaOp s := rfl
theorem exec_plp (s : State) : exec .plp s = execImplied .plp plpOp s := rfl
theorem exec_adcImm (s : State) (v : Byte) : exec (.adcImm v) s = execImmediate (.adcImm v) v adcOp s := rfl
theorem exec_adcZp (s : State) (b : Byte) : exec (.adcZp b) s = execRead (.adcZp b) (.zp b) adcOp s := rfl
theorem exec_adcZpx (s : State) (b : Byte) : exec (.adcZpx b) s = execRead (.adcZpx b) (.zpx b) adcOp s := rfl
theorem exec_adcAbs (s : State) (w : Word) : exec (.adcAbs w) s = execRead (.adcAbs w) (.abs w) adcOp s := rfl
theorem exec_adcAbsx (s : State) (w : Word) : exec (.adcAbsx w) s = execRead (.adcAbsx w) (.absx w) adcOp s := rfl
theorem exec_adcAbsy (s : State) (w : Word) : exec (.adcAbsy w) s = execRead (.adcAbsy w) (.absy w) adcOp s := rfl
theorem exec_adcIndx (s : State) (b : Byte) : exec (.adcIndx b) s = execRead (.adcIndx b) (.indx b) adcOp s := rfl
theorem exec_adcIndy (s : State) (b : Byte) : exec (.adcIndy b) s = execRead (.adcIndy b) (.indy b) adcOp s := rfl
theorem exec_sbcImm (s : State) (v : Byte) : exec (.sbcImm v) s = execImmediate (.sbcImm v) v sbcOp s := rfl
theorem exec_sbcZp (s : State) (b : Byte) : exec (.sbcZp b) s = execRead (.sbcZp b) (.zp b) sbcOp s := rfl
theorem exec_sbcZpx (s : State) (b : Byte) : exec (.sbcZpx b) s = execRead (.sbcZpx b) (.zpx b) sbcOp s := rfl
theorem exec_sbcAbs (s : State) (w : Word) : exec (.sbcAbs w) s = execRead (.sbcAbs w) (.abs w) sbcOp s := rfl
theorem exec_sbcAbsx (s : State) (w : Word) : exec (.sbcAbsx w) s = execRead (.sbcAbsx w) (.absx w) sbcOp s := rfl
theorem exec_sbcAbsy (s : State) (w : Word) : exec (.sbcAbsy w) s = execRead (.sbcAbsy w) (.absy w) sbcOp s := rfl
theorem exec_sbcIndx (s : State) (b : Byte) : exec (.sbcIndx b) s = execRead (.sbcIndx b) (.indx b) sbcOp s := rfl
theorem exec_sbcIndy (s : State) (b : Byte) : exec (.sbcIndy b) s = execRead (.sbcIndy b) (.indy b) sbcOp s := rfl
theorem exec_andImm (s : State) (v : Byte) : exec (.andImm v) s = execImmediate (.andImm v) v andOp s := rfl
theorem exec_andZp (s : State) (b : Byte) : exec (.andZp b) s = execRead (.andZp b) (.zp b) andOp s := rfl
theorem exec_andZpx (s : State) (b : Byte) : exec (.andZpx b) s = execRead (.andZpx b) (.zpx b) andOp s := rfl
theorem exec_andAbs (s : State) (w : Word) : exec (.andAbs w) s = execRead (.andAbs w) (.abs w) andOp s := rfl
theorem exec_andAbsx (s : State) (w : Word) : exec (.andAbsx w) s = execRead (.andAbsx w) (.absx w) andOp s := rfl
theorem exec_andAbsy (s : State) (w : Word) : exec (.andAbsy w) s = execRead (.andAbsy w) (.absy w) andOp s := rfl
theorem exec_andIndx (s : State) (b : Byte) : exec (.andIndx b) s = execRead (.andIndx b) (.indx b) andOp s := rfl
theorem exec_andIndy (s : State) (b : Byte) : exec (.andIndy b) s = execRead (.andIndy b) (.indy b) andOp s := rfl
theorem exec_oraImm (s : State) (v : Byte) : exec (.oraImm v) s = execImmediate (.oraImm v) v oraOp s := rfl
theorem exec_oraZp (s : State) (b : Byte) : exec (.oraZp b) s = execRead (.oraZp b) (.zp b) oraOp s := rfl
theorem exec_oraZpx (s : State) (b : Byte) : exec (.oraZpx b) s = execRead (.oraZpx b) (.zpx b) oraOp s := rfl
theorem exec_oraAbs (s : State) (w : Word) : exec (.oraAbs w) s = execRead (.oraAbs w) (.abs w) oraOp s := rfl
theorem exec_oraAbsx (s : State) (w : Word) : exec (.oraAbsx w) s = execRead (.oraAbsx w) (.absx w) oraOp s := rfl
theorem exec_oraAbsy (s : State) (w : Word) : exec (.oraAbsy w) s = execRead (.oraAbsy w) (.absy w) oraOp s := rfl
theorem exec_oraIndx (s : State) (b : Byte) : exec (.oraIndx b) s = execRead (.oraIndx b) (.indx b) oraOp s := rfl
theorem exec_oraIndy (s : State) (b : Byte) : exec (.oraIndy b) s = execRead (.oraIndy b) (.indy b) oraOp s := rfl
theorem exec_eorImm (s : State) (v : Byte) : exec (.eorImm v) s = execImmediate (.eorImm v) v eorOp s := rfl
theorem exec_eorZp (s : State) (b : Byte) : exec (.eorZp b) s = execRead (.eorZp b) (.zp b) eorOp s := rfl
theorem exec_eorZpx (s : State) (b : Byte) : exec (.eorZpx b) s = execRead (.eorZpx b) (.zpx b) eorOp s := rfl
theorem exec_eorAbs (s : State) (w : Word) : exec (.eorAbs w) s = execRead (.eorAbs w) (.abs w) eorOp s := rfl
theorem exec_eorAbsx (s : State) (w : Word) : exec (.eorAbsx w) s = execRead (.eorAbsx w) (.absx w) eorOp s := rfl
theorem exec_eorAbsy (s : State) (w : Word) : exec (.eorAbsy w) s = execRead (.eorAbsy w) (.absy w) eorOp s := rfl
theorem exec_eorIndx (s : State) (b : Byte) : exec (.eorIndx b) s = execRead (.eorIndx b) (.indx b) eorOp s := rfl
theorem exec_eorIndy (s : State) (b : Byte) : exec (.eorIndy b) s = execRead (.eorIndy b) (.indy b) eorOp s := rfl
theorem exec_bitZp (s : State) (b : Byte) : exec (.bitZp b) s = execRead (.bitZp b) (.zp b) bitOp s := rfl
theorem exec_bitAbs (s : State) (w : Word) : exec (.bitAbs w) s = execRead (.bitAbs w) (.abs w) bitOp s := rfl
theorem exec_cmpImm (s : State) (v : Byte) : exec (.cmpImm v) s = execImmediate (.cmpImm v) v cmpOp s := rfl
theorem exec_cmpZp (s : State) (b : Byte) : exec (.cmpZp b) s = execRead (.cmpZp b) (.zp b) cmpOp s := rfl
theorem exec_cmpZpx (s : State) (b : Byte) : exec (.cmpZpx b) s = execRead (.cmpZpx b) (.zpx b) cmpOp s := rfl
theorem exec_cmpAbs (s : State) (w : Word) : exec (.cmpAbs w) s = execRead (.cmpAbs w) (.abs w) cmpOp s := rfl
theorem exec_cmpAbsx (s : State) (w : Word) : exec (.cmpAbsx w) s = execRead (.cmpAbsx w) (.absx w) cmpOp s := rfl
theorem exec_cmpAbsy (s : State) (w : Word) : exec (.cmpAbsy w) s = execRead (.cmpAbsy w) (.absy w) cmpOp s := rfl
theorem exec_cmpIndx (s : State) (b : Byte) : exec (.cmpIndx b) s = execRead (.cmpIndx b) (.indx b) cmpOp s := rfl
theorem exec_cmpIndy (s : State) (b : Byte) : exec (.cmpIndy b) s = execRead (.cmpIndy b) (.indy b) cmpOp s := rfl
theorem exec_cpxImm (s : State) (v : Byte) : exec (.cpxImm v) s = execImmediate (.cpxImm v) v cpxOp s := rfl
theorem exec_cpxZp (s : State) (b : Byte) : exec (.cpxZp b) s = execRead (.cpxZp b) (.zp b) cpxOp s := rfl
theorem exec_cpxAbs (s : State) (w : Word) : exec (.cpxAbs w) s = execRead (.cpxAbs w) (.abs w) cpxOp s := rfl
theorem exec_cpyImm (s : State) (v : Byte) : exec (.cpyImm v) s = execImmediate (.cpyImm v) v cpyOp s := rfl
theorem exec_cpyZp (s : State) (b : Byte) : exec (.cpyZp b) s = execRead (.cpyZp b) (.zp b) cpyOp s := rfl
theorem exec_cpyAbs (s : State) (w : Word) : exec (.cpyAbs w) s = execRead (.cpyAbs w) (.abs w) cpyOp s := rfl
theorem exec_incZp (s : State) (b : Byte) : exec (.incZp b) s = execModify (.incZp b) (.zp b) incByte s := rfl
theorem exec_incZpx (s : State) (b : Byte) : exec (.incZpx b) s = execModify (.incZpx b) (.zpx b) incByte s := rfl
theorem exec_incAbs (s : State) (w : Word) : exec (.incAbs w) s = execModify (.incAbs w) (.abs w) incByte s := rfl
theorem exec_incAbsx (s : State) (w : Word) : exec (.incAbsx w) s = execModify (.incAbsx w) (.absx w) incByte s := rfl
theorem exec_decZp (s : State) (b : Byte) : exec (.decZp b) s = execModify (.decZp b) (.zp b) decByte s := rfl
theorem exec_decZpx (s : State) (b : Byte) : exec (.decZpx b) s = execModify (.decZpx b) (.zpx b) decByte s := rfl
theorem exec_decAbs (s : State) (w : Word) : exec (.decAbs w) s = execModify (.decAbs w) (.abs w) decByte s := rfl
theorem exec_decAbsx (s : State) (w : Word) : exec (.decAbsx w) s = execModify (.decAbsx w) (.absx w) decByte s := rfl
theorem exec_inx (s : State) : exec .inx s = execImplied .inx inxOp s := rfl
theorem exec_iny (s : State) : exec .iny s = execImplied .iny inyOp s := rfl
theorem exec_dex (s : State) : exec .dex s = execImplied .dex dexOp s := rfl
theorem exec_dey (s : State) : exec .dey s = execImplied .dey deyOp s := rfl
theorem exec_aslAcc (s : State) : exec .aslAcc s = execAccumulator .aslAcc aslByte s := rfl
theorem exec_aslZp (s : State) (b : Byte) : exec (.aslZp b) s = execModify (.aslZp b) (.zp b) aslByte s := rfl
theorem exec_aslZpx (s : State) (b : Byte) : exec (.aslZpx b) s = execModify (.aslZpx b) (.zpx b) aslByte s := rfl
theorem exec_aslAbs (s : State) (w : Word) : exec (.aslAbs w) s = execModify (.aslAbs w) (.abs w) aslByte s := rfl
theorem exec_aslAbsx (s : State) (w : Word) : exec (.aslAbsx w) s = execModify (.aslAbsx w) (.absx w) aslByte s := rfl
theorem exec_lsrAcc (s : State) : exec .lsrAcc s = execAccumulator .lsrAcc lsrByte s := rfl
theorem exec_lsrZp (s : State) (b : Byte) : exec (.lsrZp b) s = execModify (.lsrZp b) (.zp b) lsrByte s := rfl
theorem exec_lsrZpx (s : State) (b : Byte) : exec (.lsrZpx b) s = execModify (.lsrZpx b) (.zpx b) lsrByte s := rfl
theorem exec_lsrAbs (s : State) (w : Word) : exec (.lsrAbs w) s = execModify (.lsrAbs w) (.abs w) lsrByte s := rfl
theorem exec_lsrAbsx (s : State) (w : Word) : exec (.lsrAbsx w) s = execModify (.lsrAbsx w) (.absx w) lsrByte s := rfl
theorem exec_rolAcc (s : State) : exec .rolAcc s = execAccumulator .rolAcc rolByte s := rfl
theorem exec_rolZp (s : State) (b : Byte) : exec (.rolZp b) s = execModify (.rolZp b) (.zp b) rolByte s := rfl
theorem exec_rolZpx (s : State) (b : Byte) : exec (.rolZpx b) s = execModify (.rolZpx b) (.zpx b) rolByte s := rfl
theorem exec_rolAbs (s : State) (w : Word) : exec (.rolAbs w) s = execModify (.rolAbs w) (.abs w) rolByte s := rfl
theorem exec_rolAbsx (s : State) (w : Word) : exec (.rolAbsx w) s = execModify (.rolAbsx w) (.absx w) rolByte s := rfl
theorem exec_rorAcc (s : State) : exec .rorAcc s = execAccumulator .rorAcc rorByte s := rfl
theorem exec_rorZp (s : State) (b : Byte) : exec (.rorZp b) s = execModify (.rorZp b) (.zp b) rorByte s := rfl
theorem exec_rorZpx (s : State) (b : Byte) : exec (.rorZpx b) s = execModify (.rorZpx b) (.zpx b) rorByte s := rfl
theorem exec_rorAbs (s : State) (w : Word) : exec (.rorAbs w) s = execModify (.rorAbs w) (.abs w) rorByte s := rfl
theorem exec_rorAbsx (s : State) (w : Word) : exec (.rorAbsx w) s = execModify (.rorAbsx w) (.absx w) rorByte s := rfl
theorem exec_jmpAbs (s : State) (w : Word) : exec (.jmpAbs w) s = finish (.jmpAbs w) 0 (s.setPc w) := rfl
theorem exec_jmpInd (s : State) (w : Word) : exec (.jmpInd w) s = execJumpIndirect (.jmpInd w) w s := rfl
theorem exec_jsrAbs (s : State) (w : Word) : exec (.jsrAbs w) s = finish (.jsrAbs w) 0 (jsrOp w s) := rfl
theorem exec_rts (s : State) : exec .rts s = execImplied .rts rtsOp s := rfl
theorem exec_rti (s : State) : exec .rti s = execImplied .rti rtiOp s := rfl
theorem exec_brk (s : State) : exec .brk s = execImplied .brk brkOp s := rfl
theorem exec_bcc (s : State) (d : Byte) : exec (.bcc d) s = execBranch (.bcc d) d (!getFlag .c s.p) s := rfl
theorem exec_bcs (s : State) (d : Byte) : exec (.bcs d) s = execBranch (.bcs d) d (getFlag .c s.p) s := rfl
theorem exec_beq (s : State) (d : Byte) : exec (.beq d) s = execBranch (.beq d) d (getFlag .z s.p) s := rfl
theorem exec_bmi (s : State) (d : Byte) : exec (.bmi d) s = execBranch (.bmi d) d (getFlag .n s.p) s := rfl
theorem exec_bne (s : State) (d : Byte) : exec (.bne d) s = execBranch (.bne d) d (!getFlag .z s.p) s := rfl
theorem exec_bpl (s : State) (d : Byte) : exec (.bpl d) s = execBranch (.bpl d) d (!getFlag .n s.p) s := rfl
theorem exec_bvc (s : State) (d : Byte) : exec (.bvc d) s = execBranch (.bvc d) d (!getFlag .v s.p) s := rfl
theorem exec_bvs (s : State) (d : Byte) : exec (.bvs d) s = execBranch (.bvs d) d (getFlag .v s.p) s := rfl
theorem exec_clc (s : State) : exec .clc s = execImplied .clc clcOp s := rfl
theorem exec_cld (s : State) : exec .cld s = execImplied .cld cldOp s := rfl
theorem exec_cli (s : State) : exec .cli s = execImplied .cli cliOp s := rfl
theorem exec_clv (s : State) : exec .clv s = execImplied .clv clvOp s := rfl
theorem exec_sec (s : State) : exec .sec s = execImplied .sec secOp s := rfl
theorem exec_sed (s : State) : exec .sed s = execImplied .sed sedOp s := rfl
theorem exec_sei (s : State) : exec .sei s = execImplied .sei seiOp s := rfl
theorem exec_nop (s : State) : exec .nop s = execImplied .nop nopOp s := rfl

end Sys2Proof.Machine
end

