-- ==== Sys2Proof/Laws/Dma.lean ====
section
/-! SUPPORT. What the copy loop of the sprite DMA does (20_memory.md R84). -/

namespace Sys2Proof.Machine

/-- Sprite RAM after the bytes `f k` for the indices `k` of a list have been stored from a cursor on. -/
def oamCopied (cursor : Byte) (f : Nat → Byte) (l : List Nat) (o : Memory) : Memory :=
  l.foldl (fun o k => o.write (cursor + BitVec.ofNat 8 k).toNat (f k)) o

/-- The state with its sprite RAM replaced. -/
def State.setOam (s : State) (o : Memory) : State := s.setPpu { s.ppu with oam := o }

theorem oamDmaCopy_append (page : Byte) (l r : List Nat) (s : State) :
    oamDmaCopy page (l ++ r) s =
      match oamDmaCopy page l s with
      | .ok _ t => oamDmaCopy page r t
      | .fatal x t => .fatal x t := by
  induction l generalizing s with
  | nil => rfl
  | cons k l ih =>
    simp only [List.cons_append, oamDmaCopy]
    cases busRead (mkWord page (BitVec.ofNat 8 k)) s with
    | ok b t => exact ih _
    | fatal x t => rfl

/-- While every read leaves the state alone, whatever sprite RAM holds, the loop changes sprite RAM only. -/
theorem oamDmaCopy_quiet (page : Byte) (f : Nat → Byte) (l : List Nat) (s : State)
    (h : ∀ k ∈ l, ∀ o, busRead (mkWord page (BitVec.ofNat 8 k)) (s.setOam o) = .ok (f k) (s.setOam o)) :
    oamDmaCopy page l s = .ok () (s.setOam (oamCopied s.ppu.oamAddr f l s.ppu.oam)) := by
  induction l generalizing s with
  | nil => rfl
  | cons k l ih =>
    have hk : busRead (mkWord page (BitVec.ofNat 8 k)) s = .ok (f k) s := h k (List.mem_cons_self ..) s.ppu.oam
    simp only [oamDmaCopy, hk]
    exact ih (storeOamByte k (f k) s) fun j hj o => h j (List.mem_cons_of_mem _ hj) o

theorem oamCopied_read_other {cursor : Byte} {f : Nat → Byte} {l : List Nat} {i : Nat}
    (h : ∀ k ∈ l, i ≠ (cursor.toNat + k) % 256) (o : Memory) : (oamCopied cursor f l o).read i = o.read i := by
  induction l generalizing o with
  | nil => rfl
  | cons k l ih =>
    have hk := h k (List.mem_cons_self ..)
    unfold oamCopied at ih ⊢
    rw [List.foldl_cons, ih fun j hj => h j (List.mem_cons_of_mem _ hj)]
    refine Memory.read_write_other (fun e => hk ?_) _ _
    rw [e]
    simp

/-- Byte `k` of the copy lies at the cursor plus `k` modulo 256. -/
theorem oamCopied_read {cursor : Byte} {f : Nat → Byte} {l : List Nat} (hl : ∀ k ∈ l, k < 256) (hd : l.Nodup) {k : Nat}
    (hk : k ∈ l) (o : Memory) : (oamCopied cursor f l o).read ((cursor.toNat + k) % 256) = f k := by
  induction l generalizing o with
  | nil => cases hk
  | cons j l ih =>
    obtain ⟨hj, hd⟩ := List.nodup_cons.mp hd
    rcases List.mem_cons.mp hk with rfl | hm
    · have hne : ∀ i ∈ l, (cursor.toNat + k) % 256 ≠ (cursor.toNat + i) % 256 := by
        intro i hi he
        have h1 := hl i (List.mem_cons_of_mem _ hi)
        have h2 := hl k (List.mem_cons_self ..)
        have : i = k := by omega
        exact hj (this ▸ hi)
      refine (oamCopied_read_other hne _).trans ?_
      have he : (cursor + BitVec.ofNat 8 k).toNat = (cursor.toNat + k) % 256 := by simp
      dsimp only
      rw [he, Memory.read_write_same]
    · exact ih (fun i hi => hl i (List.mem_cons_of_mem _ hi)) hd hm _

end Sys2Proof.Machine
end

