-- ==== Sys2Proof/Laws/Fetch.lean ====
section
/-! SUPPORT. What a fetch keeps, bus reads of PRG and of the stack page, and the pointer of JMP Indirect as numbers. -/

namespace Sys2Proof.Machine

/-- The state an access leaves, completed or fatal. -/
def Access.state {α : Type} : Access α → State
  | .ok _ t => t
  | .fatal _ t => t

theorem busRead_state_keeps (a : Word) (s : State) : InstrKeeps s (busRead a s).state := by
  have h := busRead_keeps a s
  cases k : busRead a s <;> rw [k] at h <;> exact InstrKeeps.of_access h

theorem busWrite_state_keeps (a : Word) (v : Byte) (s : State) : InstrKeeps s (busWrite a v s).state := by
  have h := busWrite_keeps a v s
  cases k : busWrite a v s <;> rw [k] at h <;> exact InstrKeeps.of_access h

/-- The same value or error, with the state changed by `f`. -/
def Access.mapState {α : Type} (f : State → State) : Access α → Access α
  | .ok v t => .ok v (f t)
  | .fatal x t => .fatal x (f t)

/-- A bus read neither reads nor writes the PC. -/
theorem busRead_setPc (a w : Word) (s : State) :
    busRead a (s.setPc w) = (busRead a s).mapState (·.setPc w) := by
  unfold busRead
  cases regionOf a <;> try rfl
  dsimp only
  unfold ppuRegRead
  split <;> rfl

/-- A bus read neither reads nor writes the DMA stall. -/
theorem busRead_setDmaStall (a : Word) (n : Nat) (s : State) :
    busRead a (s.setDmaStall n) = (busRead a s).mapState (·.setDmaStall n) := by
  unfold busRead
  cases regionOf a <;> try rfl
  dsimp only
  unfold ppuRegRead
  split <;> rfl

/-- A fetch changes only what bus reads and the PC change; when it stops, the machine is Halted. -/
def FetchedKeeps (s : State) : Fetched → Prop
  | .instr _ t => InstrKeeps s t
  | .stopped t => InstrKeeps s t ∧ ∃ e, t.run = .halted e

theorem fetchHalted_keeps (x : IoError) (o : Option Byte) (pc : Word) {s t : State} (h : InstrKeeps s t) :
    FetchedKeeps s (fetchHalted x o pc t) := ⟨h.trans (InstrKeeps.halt t _), _, rfl⟩

theorem fetchOperands_keeps (op : Byte) (pc : Word) (e : Entry) (s : State) :
    FetchedKeeps s (fetchOperands op pc e s) := by
  unfold fetchOperands
  cases e with
  | f1 i => exact InstrKeeps.rfl' s
  | f2 make =>
    dsimp only
    have h := busRead_state_keeps s.pc s
    cases k : busRead s.pc s <;> rw [k] at h
    · exact InstrKeeps.trans h (InstrKeeps.setPc _ _)
    · exact fetchHalted_keeps _ _ _ h
  | f3 make =>
    dsimp only
    have h := busRead_state_keeps s.pc s
    cases k : busRead s.pc s with
    | fatal x t => rw [k] at h; exact fetchHalted_keeps _ _ _ h
    | ok b t =>
      rw [k] at h
      have h2 := busRead_state_keeps (s.pc + 1) t
      dsimp only
      cases k2 : busRead (s.pc + 1) t <;> rw [k2] at h2
      · exact (InstrKeeps.trans h h2).trans (InstrKeeps.setPc _ _)
      · exact fetchHalted_keeps _ _ _ (InstrKeeps.trans h h2)

theorem fetch_keeps (s : State) : FetchedKeeps s (fetch s) := by
  unfold fetch
  have h := busRead_state_keeps s.pc s
  cases k : busRead s.pc s with
  | fatal x t => rw [k] at h; exact fetchHalted_keeps _ _ _ h
  | ok b t =>
    rw [k] at h
    dsimp only
    cases ho : opcodeEntry b with
    | none => exact ⟨(InstrKeeps.trans h (InstrKeeps.setPc _ _)).trans (InstrKeeps.halt _ _), _, rfl⟩
    | some e =>
      dsimp only
      have h1 := (InstrKeeps.trans h (InstrKeeps.setPc t (s.pc + 1))).trans (InstrKeeps.setDmaStall _ 0)
      have h2 := fetchOperands_keeps b s.pc e ((t.setPc (s.pc + 1)).setDmaStall 0)
      cases hf : fetchOperands b s.pc e ((t.setPc (s.pc + 1)).setDmaStall 0) <;> rw [hf] at h2
      · exact InstrKeeps.trans h1 h2
      · exact ⟨InstrKeeps.trans h1 h2.1, h2.2⟩

/-- A bus read from 0x8000 up is a PRG read and has no effect (20_memory.md R78). -/
theorem busRead_prg (s : State) {a : Word} (h : 0x8000 ≤ a.toNat) : busRead a s = .ok (s.prgByte a) s := by
  unfold busRead
  rw [regionOf_eq_prg.mpr h]

/-- The byte at a stack address of any state. -/
theorem peek_stackAddress (t s : State) (k : Nat) :
    peek t (stackAddress s k) = some (t.ram.read (stackIndex (s.sp - BitVec.ofNat 8 k))) := by
  unfold peek stackAddress
  rw [regionOf_stack, ramIndex_stack]

/-- The pointer's high byte lies on the pointer's page, at the low address byte plus one modulo 256 (R150). -/
theorem pointerHighAddress_eq (w : Word) :
    pointerHighAddress w = BitVec.ofNat 16 (w.toNat / 256 * 256 + (w.toNat + 1) % 256) := by
  have h1 : (w + 1).toNat &&& (0x00FF#16).toNat = (w.toNat + 1) % 256 := by
    rw [show (0x00FF#16).toNat = 2 ^ 8 - 1 from rfl, Nat.and_two_pow_sub_one_eq_mod]
    bv_omega
  have hs : w &&& 0xFF00#16 = (w >>> 8) <<< 8 := by
    ext i hi
    by_cases h : i < 8
    · simp [h]
      interval_cases i <;> simp
    · simp [h]
      have : 8 ≤ i := by omega
      interval_cases i <;> simp
  have h2 : w.toNat &&& (0xFF00#16).toNat = (w.toNat / 256) <<< 8 := by
    rw [← BitVec.toNat_and, hs]
    have := w.isLt
    simp [Nat.shiftRight_eq_div_pow, Nat.shiftLeft_eq]
    omega
  rw [← BitVec.toNat_inj]
  unfold pointerHighAddress
  rw [BitVec.toNat_or, BitVec.toNat_and, BitVec.toNat_and, h1, h2, ← Nat.shiftLeft_add_eq_or_of_lt (by omega),
    Nat.shiftLeft_eq]
  have := w.isLt
  simp
  omega

end Sys2Proof.Machine
end

