-- ==== Sys2Proof/Laws/PpuMemory.lean ====
section
/-! SUPPORT. The address helpers of the PPU counters and of sprites as numbers (50_ppu_registers.md R326, R327, R330 to
R333; 51_ppu_rendering.md R359). -/

namespace Sys2Proof.Machine

theorem Scroll.bits_toNat (c : Scroll) :
    c.bits.toNat = c.fv.toNat * 4096 + c.v.toNat * 2048 + c.h.toNat * 1024 + c.vt.toNat * 32 + c.ht.toNat := by
  have h : c.bits.toNat =
      (((c.fv.toNat <<< 1 ||| c.v.toNat) <<< 1 ||| c.h.toNat) <<< 5 ||| c.vt.toNat) <<< 5 ||| c.ht.toNat := by
    unfold Scroll.bits
    simp only [BitVec.toNat_append]
  rw [h, ← Nat.shiftLeft_add_eq_or_of_lt c.ht.isLt, ← Nat.shiftLeft_add_eq_or_of_lt c.vt.isLt,
    ← Nat.shiftLeft_add_eq_or_of_lt c.h.isLt, ← Nat.shiftLeft_add_eq_or_of_lt c.v.isLt]
  simp only [Nat.shiftLeft_eq]
  omega

theorem vramAddress_toNat (c : Scroll) : (vramAddress c).toNat = c.bits.toNat % 0x4000 := by
  unfold vramAddress
  simp
  omega

theorem nametableAddress_toNat (c : Scroll) :
    (nametableAddress c).toNat =
      0x2000 + c.v.toNat * 0x800 + c.h.toNat * 0x400 + c.vt.toNat * 32 + c.ht.toNat := by
  have h : (nametableAddress c).toNat = 2 <<< 12 ||| c.bits.toNat % 4096 := by
    unfold nametableAddress
    rw [BitVec.toNat_or]
    simp
    rw [Nat.mod_eq_of_lt (show c.bits.toNat % 4096 < 65536 by omega)]
  rw [h, ← Nat.shiftLeft_add_eq_or_of_lt (by omega), c.bits_toNat]
  have := c.v.isLt
  have := c.h.isLt
  have := c.vt.isLt
  have := c.ht.isLt
  simp only [Nat.shiftLeft_eq]
  omega

theorem attributetableAddress_toNat (c : Scroll) :
    (attributetableAddress c).toNat =
      0x23C0 + c.v.toNat * 0x800 + c.h.toNat * 0x400 + c.vt.toNat / 4 * 8 + c.ht.toNat / 4 := by
  have key : ∀ (v h : BitVec 1) (a b : BitVec 3),
      (0x23C0#16 ||| (v.setWidth 16 <<< 11) ||| (h.setWidth 16 <<< 10) ||| (a.setWidth 16 <<< 3)
        ||| b.setWidth 16).toNat = 0x23C0 + v.toNat * 0x800 + h.toNat * 0x400 + a.toNat * 8 + b.toNat := by decide
  have cut : ∀ t : BitVec 5, (t >>> 2).setWidth 16 = (t.extractLsb' 2 3).setWidth 16 ∧
      (t.extractLsb' 2 3).toNat = t.toNat / 4 := by decide
  unfold attributetableAddress
  rw [(cut c.vt).1, (cut c.ht).1, key, (cut c.vt).2, (cut c.ht).2]

/-- A pattern address: the table, the tile and the row in it are separate fields. -/
theorem patternAddress_toNat (b : Bool) (t : Byte) {r : Word} (hr : r.toNat < 8) :
    (((if b then 1#16 else 0#16) <<< 12) ||| (t.setWidth 16 <<< 4) ||| r).toNat =
      (if b then 0x1000 else 0) + t.toNat * 16 + r.toNat := by
  have ht := t.isLt
  have e : (t.setWidth 16 <<< 4 : Word).toNat = t.toNat <<< 4 := by
    simp [Nat.shiftLeft_eq]
    omega
  have eb : ((if b then 1#16 else 0#16) <<< 12 : Word).toNat = (if b then 1 else 0) <<< 12 := by cases b <;> rfl
  rw [BitVec.toNat_or, BitVec.toNat_or, e, eb, Nat.or_assoc,
    ← Nat.shiftLeft_add_eq_or_of_lt (a := t.toNat) (b := r.toNat) (i := 4) (by omega),
    ← Nat.shiftLeft_add_eq_or_of_lt (by simp only [Nat.shiftLeft_eq]; omega)]
  cases b <;> simp [Nat.shiftLeft_eq, Nat.add_assoc]

theorem patterntableAddress_toNat (ctrl : Byte) (c : Scroll) (t : Byte) :
    (patterntableAddress ctrl c t).toNat =
      (if ctrl.getLsbD 4 then 0x1000 else 0) + t.toNat * 16 + c.fv.toNat := by
  have hf : (c.fv.setWidth 16 : Word).toNat = c.fv.toNat := by
    have := c.fv.isLt
    simp
    omega
  unfold patterntableAddress
  rw [patternAddress_toNat _ _ (by rw [hf]; exact c.fv.isLt), hf]
  rfl

theorem paletteSelectBits_eq (c : Scroll) (v : Byte) :
    paletteSelectBits c v =
      BitVec.ofNat 2 (v.toNat / 2 ^ (4 * (c.vt.toNat / 2 % 2) + 2 * (c.ht.toNat / 2 % 2))) := by
  have key : ∀ a b : BitVec 5,
      (((a &&& 2) <<< 1) ||| (b &&& 2)).toNat = 4 * (a.toNat / 2 % 2) + 2 * (b.toNat / 2 % 2) := by decide
  unfold paletteSelectBits
  rw [key]
  rw [← BitVec.toNat_inj]
  simp [Nat.shiftRight_eq_div_pow]

theorem planes_eq (hi lo : Bool) : planes hi lo = BitVec.ofNat 2 (2 * hi.toNat + lo.toNat) := by
  cases hi <;> cases lo <;> rfl

theorem bitOf_toNat (v : Byte) (k : Nat) : (bitOf v k).toNat = v.toNat / 2 ^ k % 2 := by
  unfold bitOf
  rw [BitVec.getLsbD, Nat.testBit_eq_decide_div_mod_eq]
  rcases Nat.mod_two_eq_zero_or_one (v.toNat / 2 ^ k) with h | h <;> rw [h] <;> rfl

end Sys2Proof.Machine
end

