-- ==== Sys2Proof/Laws/Render.lean ====
section
/-! SUPPORT. The laws of the renderer: a row has 256 pixels, and what a scanline step can do. -/

namespace Sys2Proof.Machine

theorem tilePixels_length (cfg : Config) (p : Ppu) (c : Scroll) : (tilePixels cfg p c).length = 8 := by
  simp [tilePixels]

theorem tileRun_length (cfg : Config) (p : Ppu) (n : Nat) (c : Scroll) : (tileRun cfg p n c).length = 8 * n := by
  induction n generalizing c with
  | zero => rfl
  | succ n ih => simp [tileRun, ih, tilePixels_length]; omega

theorem backgroundLine_length (cfg : Config) (p : Ppu) : (backgroundLine cfg p).length = 256 := by
  have := p.regFH.isLt
  simp [backgroundLine, tileRun_length]
  omega

theorem renderRow_length (cfg : Config) (p : Ppu) (y : Nat) : (renderRow cfg p y).length = 256 := by
  simp [renderRow, backgroundLine_length]

/-- Pixel `i` of a run of tiles is pixel `i % 8` of the tile `i / 8` steps to the right. -/
theorem tileRun_getElem? (cfg : Config) (p : Ppu) (n : Nat) (c : Scroll) {i : Nat} (h : i < 8 * n) :
    (tileRun cfg p n c)[i]? = (tilePixels cfg p (advanceTiles (i / 8) c))[i % 8]? := by
  induction n generalizing c i with
  | zero => omega
  | succ n ih =>
    unfold tileRun
    by_cases hi : i < 8
    · rw [List.getElem?_append_left (by rw [tilePixels_length]; exact hi), Nat.div_eq_of_lt hi, Nat.mod_eq_of_lt hi]
      rfl
    · rw [List.getElem?_append_right (by rw [tilePixels_length]; omega), tilePixels_length, ih _ (by omega),
        show i / 8 = (i - 8) / 8 + 1 by omega, show i % 8 = (i - 8) % 8 by omega]
      rfl

theorem incHorizontal_vertical (c : Scroll) :
    (incHorizontal c).fv = c.fv ∧ (incHorizontal c).v = c.v ∧ (incHorizontal c).vt = c.vt := by
  unfold incHorizontal
  dsimp only
  split_ifs <;> exact ⟨rfl, rfl, rfl⟩

/-- A tile step moves the column over the two name tables, H and HT together, by one modulo 64 (R346). -/
theorem incHorizontal_column (c : Scroll) :
    (incHorizontal c).h.toNat * 32 + (incHorizontal c).ht.toNat = (c.h.toNat * 32 + c.ht.toNat + 1) % 64 := by
  have key : ∀ (h : BitVec 1) (t : BitVec 5),
      (if t + 1 = 0 then h ^^^ 1 else h).toNat * 32 + (t + 1).toNat = (h.toNat * 32 + t.toNat + 1) % 64 := by decide
  have := key c.h c.ht
  unfold incHorizontal
  dsimp only
  split_ifs at this ⊢ <;> exact this

theorem advanceTiles_vertical (n : Nat) (c : Scroll) :
    (advanceTiles n c).fv = c.fv ∧ (advanceTiles n c).v = c.v ∧ (advanceTiles n c).vt = c.vt := by
  induction n generalizing c with
  | zero => exact ⟨rfl, rfl, rfl⟩
  | succ n ih =>
    obtain ⟨h1, h2, h3⟩ := ih (incHorizontal c)
    obtain ⟨k1, k2, k3⟩ := incHorizontal_vertical c
    exact ⟨h1.trans k1, h2.trans k2, h3.trans k3⟩

theorem advanceTiles_column (n : Nat) (c : Scroll) :
    (advanceTiles n c).h.toNat * 32 + (advanceTiles n c).ht.toNat = (c.h.toNat * 32 + c.ht.toNat + n) % 64 := by
  induction n generalizing c with
  | zero =>
    have := c.h.isLt
    have := c.ht.isLt
    simp only [advanceTiles]
    omega
  | succ n ih =>
    simp only [advanceTiles]
    rw [ih, incHorizontal_column]
    omega

/-- Writing a row keeps the frame well formed. -/
theorem frameOk_insertKey {f : Frame} (h : frameOk f = true) {y : Nat} (hy : y < 240) {r : List Pixel}
    (hr : r.length = 256) : frameOk (insertKey y r f) = true := by
  simp only [frameOk, Bool.and_eq_true, List.all_eq_true, decide_eq_true_eq, beq_iff_eq] at h ⊢
  refine ⟨keysRise_insertKey y r h.1, fun c hc => ?_⟩
  rcases mem_insertKey hc with rfl | hm
  · exact ⟨hy, hr⟩
  · exact h.2 c hm

/-- What every scanline step keeps: the registers a program writes, the latches and the memories. -/
structure LineKeeps (p q : Ppu) : Prop where
  ctrl : q.ctrl = p.ctrl
  mask : q.mask = p.mask
  oamAddr : q.oamAddr = p.oamAddr
  w : q.w = p.w
  readBuffer : q.readBuffer = p.readBuffer
  reg : q.reg = p.reg
  regFH : q.regFH = p.regFH
  ciram : q.ciram = p.ciram
  palette : q.palette = p.palette
  chr : q.chr = p.chr
  oam : q.oam = p.oam
  frame : frameOk p.frame = true → frameOk q.frame = true

theorem renderLine_keeps (cfg : Config) (p : Ppu) {y : Nat} (hy : y < 240) : LineKeeps p (renderLine cfg p y) := by
  constructor <;> try rfl
  exact fun h => frameOk_insertKey h hy (renderRow_length cfg p y)

theorem blankLine_keeps (cfg : Config) (p : Ppu) {y : Nat} (hy : y < 240) : LineKeeps p (blankLine cfg p y) := by
  constructor <;> try rfl
  exact fun h => frameOk_insertKey h hy List.length_replicate

/-- Everything a completed scanline step keeps. -/
theorem renderScanline_keeps {cfg : Config} {l : Nat} {p q : Ppu} {nmi : Bool}
    (h : renderScanline cfg l p = .done q nmi) : LineKeeps p q := by
  unfold renderScanline at h
  by_cases h0 : l = 0
  · rw [if_pos h0] at h; cases h; constructor <;> first | rfl | exact id
  rw [if_neg h0] at h
  by_cases h20 : l = 20
  · rw [if_pos h20] at h; cases h; constructor <;> first | rfl | exact id
  rw [if_neg h20] at h
  by_cases h261 : l = 261
  · rw [if_pos h261] at h; cases h; constructor <;> first | rfl | exact id
  rw [if_neg h261] at h
  by_cases hv : 21 ≤ l ∧ l ≤ 260
  · rw [if_pos hv] at h
    by_cases hr : renderingEnabled p = true
    · rw [if_pos hr] at h
      by_cases hs : bitOf p.ctrl 5 = true
      · rw [if_pos hs] at h; cases h
      · rw [if_neg hs] at h; cases h; exact renderLine_keeps cfg p (by omega)
    · rw [if_neg hr] at h; cases h; exact blankLine_keeps cfg p (by omega)
  · rw [if_neg hv] at h; cases h; constructor <;> first | rfl | exact id

/-- A scanline step requests an NMI at scanline 261 alone, with PPUCTRL bit 7. -/
theorem renderScanline_nmi {cfg : Config} {l : Nat} {p q : Ppu} (h : renderScanline cfg l p = .done q true) :
    l = 261 ∧ bitOf p.ctrl 7 = true := by
  unfold renderScanline at h
  split_ifs at h <;> simp_all

/-- A scanline step is fatal on a visible line with rendering enabled and 8x16 sprites, and only there. -/
theorem renderScanline_fatal {cfg : Config} {l : Nat} {p : Ppu} :
    renderScanline cfg l p = .fatal ↔
      21 ≤ l ∧ l ≤ 260 ∧ renderingEnabled p = true ∧ bitOf p.ctrl 5 = true := by
  unfold renderScanline
  split_ifs <;> simp_all

theorem LineKeeps.ppuMemoryOk {p q : Ppu} (h : LineKeeps p q) : ppuMemoryOk q = ppuMemoryOk p := by
  simp [Machine.ppuMemoryOk, h.ciram, h.palette, h.chr, h.oam]

end Sys2Proof.Machine
end

