-- ==== Sys2Proof/Laws/Scheduler.lean ====
section
/-! SUPPORT. The laws of the frame scheduler: one turn of its loop, what the loop keeps, and that its fuel suffices. -/

namespace Sys2Proof.Machine

/-- What the scheduler keeps of a state. -/
structure TurnKeeps (s t : State) : Prop where
  a : t.a = s.a
  x : t.x = s.x
  y : t.y = s.y
  sram : t.sram = s.sram
  prg : t.prg = s.prg
  pad : t.pad = s.pad
  dmaStall : t.dmaStall = s.dmaStall
  cyc : t.cyc = s.cyc
  cfg : t.cfg = s.cfg
  chr : t.ppu.chr = s.ppu.chr
  memory : memoryOk s = true → memoryOk t = true
  status : statusOk s.p = true → statusOk t.p = true
  frame : frameOk s.ppu.frame = true → frameOk t.ppu.frame = true

theorem TurnKeeps.rfl' (s : State) : TurnKeeps s s := by constructor <;> first | rfl | exact id

theorem TurnKeeps.trans {s t u : State} (h : TurnKeeps s t) (k : TurnKeeps t u) : TurnKeeps s u where
  a := k.a.trans h.a
  x := k.x.trans h.x
  y := k.y.trans h.y
  sram := k.sram.trans h.sram
  prg := k.prg.trans h.prg
  pad := k.pad.trans h.pad
  dmaStall := k.dmaStall.trans h.dmaStall
  cyc := k.cyc.trans h.cyc
  cfg := k.cfg.trans h.cfg
  chr := k.chr.trans h.chr
  memory := k.memory ∘ h.memory
  status := k.status ∘ h.status
  frame := k.frame ∘ h.frame

theorem TurnKeeps.setSched (s : State) (c : Sched) : TurnKeeps s (s.setSched c) := by
  constructor <;> simp [memoryOk]

theorem TurnKeeps.halt (s : State) (e : FatalError) : TurnKeeps s (s.halt e) := by
  constructor <;> simp [memoryOk]

theorem TurnKeeps.setPpu (s : State) {q : Ppu} (h : LineKeeps s.ppu q) : TurnKeeps s (s.setPpu q) := by
  constructor
  case memory => exact fun hm => memoryOk_setPpu hm (by rw [h.ppuMemoryOk]; exact ppuMemoryOk_of_memoryOk hm)
  case frame => exact h.frame
  all_goals simp [h.chr]

theorem enterInterrupt_turn (r : Word) (st : Byte) (v : Word) (s : State) : TurnKeeps s (enterInterrupt r st v s) := by
  have h := enterInterrupt_keeps r st v s
  constructor
  case cfg => exact h.cfg
  case prg => exact h.prg
  case memory => exact h.memory
  case status => exact h.status
  all_goals simp [enterInterrupt, push16]

/-- The NMI request: dropped while I is set, otherwise entered at a cost of 7 cycles (R403). -/
theorem nmiRequest_cases (s : State) :
    (getFlag .i s.p = true ∧ nmiRequest s = (s, 0)) ∨
      (getFlag .i s.p = false ∧ nmiRequest s = (enterInterrupt s.pc (statusForNmi s.p) 0xFFFA#16 s, 7)) := by
  unfold nmiRequest
  cases getFlag .i s.p <;> simp [nmiCycles]

theorem nmiRequest_turn (s : State) : TurnKeeps s (nmiRequest s).1 := by
  obtain ⟨-, h⟩ | ⟨-, h⟩ := nmiRequest_cases s <;> rw [h]
  · exact TurnKeeps.rfl' s
  · exact enterInterrupt_turn ..

theorem nmiRequest_run (s : State) : (nmiRequest s).1.run = s.run := by
  obtain ⟨-, h⟩ | ⟨-, h⟩ := nmiRequest_cases s <;> rw [h]
  exact enterInterrupt_run ..

theorem nmiRequest_sched (s : State) : (nmiRequest s).1.sched = s.sched := by
  obtain ⟨-, h⟩ | ⟨-, h⟩ := nmiRequest_cases s <;> rw [h]
  simp [enterInterrupt, push16]

/-- One turn ends in one of three ways: the fatal error of the line, the line alone, or the line and its NMI request. -/
theorem renderOneLine_cases (s : State) :
    (renderScanline s.cfg s.sched.line.val s.ppu = .fatal ∧
      renderOneLine s =
        (s.setSched { s.sched with acc := s.sched.acc - s.cfg.cyclesPerScanline }).halt
          (.unimplementedAddressingEdgeCase s.sched.line.val)) ∨
    (∃ q, renderScanline s.cfg s.sched.line.val s.ppu = .done q false ∧
      renderOneLine s =
        (s.setPpu q).setSched { line := s.sched.line + 1, acc := s.sched.acc - s.cfg.cyclesPerScanline }) ∨
    (∃ q u r, renderScanline s.cfg s.sched.line.val s.ppu = .done q true ∧
      u = (s.setPpu q).setSched { line := s.sched.line + 1, acc := s.sched.acc - s.cfg.cyclesPerScanline } ∧
      r = nmiRequest u ∧
      renderOneLine s =
        r.1.setSched { line := s.sched.line + 1, acc := s.sched.acc - s.cfg.cyclesPerScanline + r.2 }) := by
  unfold renderOneLine
  dsimp only
  cases h : renderScanline s.cfg s.sched.line.val s.ppu with
  | fatal => exact .inl ⟨rfl, rfl⟩
  | done q nmi =>
    cases nmi
    · exact .inr (.inl ⟨q, rfl, rfl⟩)
    · refine .inr (.inr ⟨q, _, _, rfl, rfl, rfl, ?_⟩)
      simp only [if_true]
      rw [nmiRequest_sched]
      rfl

theorem renderOneLine_keeps (s : State) : TurnKeeps s (renderOneLine s) := by
  obtain ⟨-, h⟩ | ⟨q, hq, h⟩ | ⟨q, u, r, hq, rfl, rfl, h⟩ := renderOneLine_cases s <;> rw [h]
  · exact (TurnKeeps.setSched s _).trans (TurnKeeps.halt _ _)
  · exact (TurnKeeps.setPpu s (renderScanline_keeps hq)).trans (TurnKeeps.setSched _ _)
  · exact (((TurnKeeps.setPpu s (renderScanline_keeps hq)).trans (TurnKeeps.setSched _ _)).trans
      (nmiRequest_turn _)).trans (TurnKeeps.setSched _ _)

theorem renderLines_keeps (n : Nat) (s : State) : TurnKeeps s (renderLines n s) := by
  induction n generalizing s with
  | zero => exact TurnKeeps.rfl' s
  | succ n ih =>
    unfold renderLines
    split_ifs
    · exact (renderOneLine_keeps s).trans (ih _)
    · exact TurnKeeps.rfl' s

theorem chargeCycles_keeps (s : State) : TurnKeeps s (chargeCycles s) := by
  unfold chargeCycles
  split_ifs
  · exact (TurnKeeps.setSched s _).trans (renderLines_keeps _ _)
  · exact TurnKeeps.rfl' s

/-! ## The loop's fuel -/

/-- The loop has nothing left to do. -/
def LineDone (s : State) : Prop := ¬(s.run = .running ∧ s.cfg.cyclesPerScanline ≤ s.sched.acc)

theorem renderLines_of_done {s : State} (h : LineDone s) (n : Nat) : renderLines n s = s := by
  cases n with
  | zero => rfl
  | succ n => exact if_neg h

/-- The cycles the loop can still charge: those held, and those of the one NMI that may come. -/
def turnBudget (s : State) : Nat := s.sched.acc + if getFlag .i s.p then 0 else nmiCycles

theorem turnBudget_lt_lineFuel (s : State) : turnBudget s < lineFuel s := by
  unfold turnBudget lineFuel
  split_ifs <;> omega

/-- Each turn charges at least a cycle of the budget. -/
theorem turnBudget_renderOneLine {s : State} (hw : s.cfg.wf = true) (ha : s.cfg.cyclesPerScanline ≤ s.sched.acc) :
    turnBudget (renderOneLine s) < turnBudget s := by
  have hpos : 0 < s.cfg.cyclesPerScanline := by simpa [Config.wf] using hw
  obtain ⟨-, h⟩ | ⟨q, -, h⟩ | ⟨q, u, r, -, hu, hr, h⟩ := renderOneLine_cases s <;> rw [h]
  · simp only [turnBudget, State.halt_sched, State.setSched_sched, State.halt_p, State.setSched_p]
    exact Nat.add_lt_add_right (by omega) _
  · simp only [turnBudget, State.setSched_sched, State.setSched_p, State.setPpu_p]
    exact Nat.add_lt_add_right (by omega) _
  · have hp : u.p = s.p := by rw [hu]; simp
    obtain ⟨hi, hn⟩ | ⟨hi, hn⟩ := nmiRequest_cases u <;> rw [hn] at hr <;> subst hr <;> rw [hp] at hi
    · simp only [turnBudget, State.setSched_sched, State.setSched_p, hp]
      omega
    · simp only [turnBudget, State.setSched_sched, State.setSched_p, enterInterrupt_p, getFlag_putFlag_same, hi, nmiCycles]
      simp
      omega

end Sys2Proof.Machine
end

