-- ==== Sys2Proof/Machine/Assembly.lean ====
section
/-! DEFINITION. The assembler syntax (30_encoding.md R128): how an instruction is written, and the displacement an
assembler computes for a branch. -/

namespace Sys2Proof.Machine

/-- A hexadecimal digit. -/
def hexDigit (n : Nat) : Char := (['0', '1', '2', '3', '4', '5', '6', '7', '8', '9', 'A', 'B', 'C', 'D', 'E', 'F']).getD n '0'

/-- `$nn`. -/
def hexByte (b : Byte) : List Char := ['$', hexDigit (b.toNat / 16), hexDigit (b.toNat % 16)]

/-- `$nnnn`. -/
def hexWord (w : Word) : List Char := hexByte (hiByte w) ++ (hexByte (loByte w)).drop 1

/-- The operand of an instruction at address `addr`, as R128 writes its mode; a branch is written with its target. -/
def operandText (addr : Word) : Instr → List Char
  | .ldaImm v => '#' :: hexByte v
  | .ldaZp b => hexByte b
  | .ldaZpx b => hexByte b ++ [',', 'X']
  | .ldaAbs w => hexWord w
  | .ldaAbsx w => hexWord w ++ [',', 'X']
  | .ldaAbsy w => hexWord w ++ [',', 'Y']
  | .ldaIndx b => '(' :: hexByte b ++ [',', 'X', ')']
  | .ldaIndy b => '(' :: hexByte b ++ [')', ',', 'Y']
  | .ldxImm v => '#' :: hexByte v
  | .ldxZp b => hexByte b
  | .ldxZpy b => hexByte b ++ [',', 'Y']
  | .ldxAbs w => hexWord w
  | .ldxAbsy w => hexWord w ++ [',', 'Y']
  | .ldyImm v => '#' :: hexByte v
  | .ldyZp b => hexByte b
  | .ldyZpx b => hexByte b ++ [',', 'X']
  | .ldyAbs w => hexWord w
  | .ldyAbsx w => hexWord w ++ [',', 'X']
  | .staZp b => hexByte b
  | .staZpx b => hexByte b ++ [',', 'X']
  | .staAbs w => hexWord w
  | .staAbsx w => hexWord w ++ [',', 'X']
  | .staAbsy w => hexWord w ++ [',', 'Y']
  | .staIndx b => '(' :: hexByte b ++ [',', 'X', ')']
  | .staIndy b => '(' :: hexByte b ++ [')', ',', 'Y']
  | .stxZp b => hexByte b
  | .stxZpy b => hexByte b ++ [',', 'Y']
  | .stxAbs w => hexWord w
  | .styZp b => hexByte b
  | .styZpx b => hexByte b ++ [',', 'X']
  | .styAbs w => hexWord w
  | .tax => []
  | .tay => []
  | .tsx => []
  | .txa => []
  | .txs => []
  | .tya => []
  | .pha => []
  | .php => []
  | .pla => []
  | .plp => []
  | .adcImm v => '#' :: hexByte v
  | .adcZp b => hexByte b
  | .adcZpx b => hexByte b ++ [',', 'X']
  | .adcAbs w => hexWord w
  | .adcAbsx w => hexWord w ++ [',', 'X']
  | .adcAbsy w => hexWord w ++ [',', 'Y']
  | .adcIndx b => '(' :: hexByte b ++ [',', 'X', ')']
  | .adcIndy b => '(' :: hexByte b ++ [')', ',', 'Y']
  | .sbcImm v => '#' :: hexByte v
  | .sbcZp b => hexByte b
  | .sbcZpx b => hexByte b ++ [',', 'X']
  | .sbcAbs w => hexWord w
  | .sbcAbsx w => hexWord w ++ [',', 'X']
  | .sbcAbsy w => hexWord w ++ [',', 'Y']
  | .sbcIndx b => '(' :: hexByte b ++ [',', 'X', ')']
  | .sbcIndy b => '(' :: hexByte b ++ [')', ',', 'Y']
  | .andImm v => '#' :: hexByte v
  | .andZp b => hexByte b
  | .andZpx b => hexByte b ++ [',', 'X']
  | .andAbs w => hexWord w
  | .andAbsx w => hexWord w ++ [',', 'X']
  | .andAbsy w => hexWord w ++ [',', 'Y']
  | .andIndx b => '(' :: hexByte b ++ [',', 'X', ')']
  | .andIndy b => '(' :: hexByte b ++ [')', ',', 'Y']
  | .oraImm v => '#' :: hexByte v
  | .oraZp b => hexByte b
  | .oraZpx b => hexByte b ++ [',', 'X']
  | .oraAbs w => hexWord w
  | .oraAbsx w => hexWord w ++ [',', 'X']
  | .oraAbsy w => hexWord w ++ [',', 'Y']
  | .oraIndx b => '(' :: hexByte b ++ [',', 'X', ')']
  | .oraIndy b => '(' :: hexByte b ++ [')', ',', 'Y']
  | .eorImm v => '#' :: hexByte v
  | .eorZp b => hexByte b
  | .eorZpx b => hexByte b ++ [',', 'X']
  | .eorAbs w => hexWord w
  | .eorAbsx w => hexWord w ++ [',', 'X']
  | .eorAbsy w => hexWord w ++ [',', 'Y']
  | .eorIndx b => '(' :: hexByte b ++ [',', 'X', ')']
  | .eorIndy b => '(' :: hexByte b ++ [')', ',', 'Y']
  | .bitZp b => hexByte b
  | .bitAbs w => hexWord w
  | .cmpImm v => '#' :: hexByte v
  | .cmpZp b => hexByte b
  | .cmpZpx b => hexByte b ++ [',', 'X']
  | .cmpAbs w => hexWord w
  | .cmpAbsx w => hexWord w ++ [',', 'X']
  | .cmpAbsy w => hexWord w ++ [',', 'Y']
  | .cmpIndx b => '(' :: hexByte b ++ [',', 'X', ')']
  | .cmpIndy b => '(' :: hexByte b ++ [')', ',', 'Y']
  | .cpxImm v => '#' :: hexByte v
  | .cpxZp b => hexByte b
  | .cpxAbs w => hexWord w
  | .cpyImm v => '#' :: hexByte v
  | .cpyZp b => hexByte b
  | .cpyAbs w => hexWord w
  | .incZp b => hexByte b
  | .incZpx b => hexByte b ++ [',', 'X']
  | .incAbs w => hexWord w
  | .incAbsx w => hexWord w ++ [',', 'X']
  | .decZp b => hexByte b
  | .decZpx b => hexByte b ++ [',', 'X']
  | .decAbs w => hexWord w
  | .decAbsx w => hexWord w ++ [',', 'X']
  | .inx => []
  | .iny => []
  | .dex => []
  | .dey => []
  | .aslAcc => ['A']
  | .aslZp b => hexByte b
  | .aslZpx b => hexByte b ++ [',', 'X']
  | .aslAbs w => hexWord w
  | .aslAbsx w => hexWord w ++ [',', 'X']
  | .lsrAcc => ['A']
  | .lsrZp b => hexByte b
  | .lsrZpx b => hexByte b ++ [',', 'X']
  | .lsrAbs w => hexWord w
  | .lsrAbsx w => hexWord w ++ [',', 'X']
  | .rolAcc => ['A']
  | .rolZp b => hexByte b
  | .rolZpx b => hexByte b ++ [',', 'X']
  | .rolAbs w => hexWord w
  | .rolAbsx w => hexWord w ++ [',', 'X']
  | .rorAcc => ['A']
  | .rorZp b => hexByte b
  | .rorZpx b => hexByte b ++ [',', 'X']
  | .rorAbs w => hexWord w
  | .rorAbsx w => hexWord w ++ [',', 'X']
  | .jmpAbs w => hexWord w
  | .jmpInd w => '(' :: hexWord w ++ [')']
  | .jsrAbs w => hexWord w
  | .rts => []
  | .rti => []
  | .brk => []
  | .bcc d => hexWord (branchTarget d (addr + 2))
  | .bcs d => hexWord (branchTarget d (addr + 2))
  | .beq d => hexWord (branchTarget d (addr + 2))
  | .bmi d => hexWord (branchTarget d (addr + 2))
  | .bne d => hexWord (branchTarget d (addr + 2))
  | .bpl d => hexWord (branchTarget d (addr + 2))
  | .bvc d => hexWord (branchTarget d (addr + 2))
  | .bvs d => hexWord (branchTarget d (addr + 2))
  | .clc => []
  | .cld => []
  | .cli => []
  | .clv => []
  | .sec => []
  | .sed => []
  | .sei => []
  | .nop => []

/-- An instruction at address `addr` as an assembler writes it (R128). -/
def asmText (addr : Word) (i : Instr) : List Char :=
  match operandText addr i with
  | [] => (mnemonic i).toList
  | c :: rest => (mnemonic i).toList ++ ' ' :: c :: rest

/-- The displacement byte of a branch at `addr` to `target` (R128): `target - (addr + 2)`, which must lie in -128 to 127. -/
def branchByte (addr target : Word) : Option Byte :=
  let b := loByte (target - (addr + 2))
  if branchTarget b (addr + 2) = target then some b else none

end Sys2Proof.Machine
end

