-- ==== Sys2Proof/Machine/Cartridge.lean ====
section
/-! DEFINITION. The cartridge file as the interface the core is configured through (20_memory.md R118; 60_exceptions.md
R401). The loader is outside the block (00_scope.md R7); this is the reading of its format that R118 gives (log 14). -/

namespace Sys2Proof.Machine

/-- Why a cartridge file gives no configuration: no machine is built (R401). -/
inductive LoadError where
  /-- wrong magic, or a file shorter than its header -/
  | invalidRom
  /-- PRG page count 0 -/
  | emptyProgramRom
  /-- the declared sizes do not match the file length -/
  | sizeMismatch
  /-- a header R118 refuses: a mapper, four-screen, more than 2 PRG pages or more than 1 CHR page -/
  | unsupported
deriving DecidableEq, Repr

/-- A byte buffer as a `Memory` in canonical form, from index `k`. -/
def memoryFrom (k : Nat) : List Byte → Memory
  | [] => []
  | v :: rest => if v = Memory.unlisted then memoryFrom (k + 1) rest else (k, v) :: memoryFrom (k + 1) rest

/-- A field of the 16-byte header (R118). -/
def headerByte (file : List Byte) (k : Nat) : Byte := file.getD k 0

/-- The header begins `N`, `E`, `S`, 0x1A. -/
def magicOk (file : List Byte) : Bool := decide (16 ≤ file.length) && file.take 4 == [0x4E, 0x45, 0x53, 0x1A]

/-- The bytes before PRG: the header and, with byte 6 bit 2, a 512-byte trainer. -/
def prgOffset (file : List Byte) : Nat := 16 + if bitOf (headerByte file 6) 2 then 512 else 0

/-- The mapper number: low nibble in byte 6 bits 7:4, high nibble in byte 7 bits 7:4. -/
def mapperNumber (file : List Byte) : Nat :=
  (headerByte file 7).toNat / 16 * 16 + (headerByte file 6).toNat / 16

/-- The configuration and the PRG and CHR buffers of a cartridge file (R118); the other parameters of R9 keep their
defaults. -/
def loadCartridge (file : List Byte) : Except LoadError (Config × Memory × Memory) :=
  let prgPages := (headerByte file 4).toNat
  let chrPages := (headerByte file 5).toNat
  let prgBytes := prgPages * 16384
  if !magicOk file then .error .invalidRom
  else if prgPages = 0 then .error .emptyProgramRom
  else if file.length ≠ prgOffset file + prgBytes + chrPages * 8192 then .error .sizeMismatch
  else if mapperNumber file ≠ 0 ∨ bitOf (headerByte file 6) 3 = true ∨ 2 < prgPages ∨ 1 < chrPages then
    .error .unsupported
  else
    let prg := (file.drop (prgOffset file)).take prgBytes
    let chr := file.drop (prgOffset file + prgBytes)
    .ok ({ Config.default with
            prgSize := if prgPages = 1 then .kb16 else .kb32
            chrRom := chrPages != 0
            mirroring := if bitOf (headerByte file 6) 0 then .vertical else .horizontal },
      memoryFrom 0 prg, memoryFrom 0 chr)

end Sys2Proof.Machine
end

