-- ==== Sys2Proof/Tests/Slice0.lean ====
section
/-! SUPPORT. The model's own tests. Expected values come from the encodings of 30_encoding.md R124 and R125 and from the
worked examples and vectors of 95_test_vectors.md (named by their ids), or by hand from the rule named; at the end, for
every obligation with hypotheses, a witness that meets them. -/

namespace Sys2Proof.Tests

open Sys2Proof Sys2Proof.Machine

/-! ## Helpers -/

/-- The power-on state with the PC at 0x8000 and code there (the conventions of 95_test_vectors.md). -/
def at8000 (bytes : List Byte) : State := placeBytes 0x8000#16 bytes (State.reset.setPc 0x8000#16)

/-- A byte placed at a CPU address. -/
def State.with (s : State) (a : Word) (v : Byte) : State := placeByte a v s

/-- The state after one system step; the state itself if there is none. -/
def after (s : State) : State :=
  match step s with
  | .next t => t
  | .fault _ => s
  | .refused _ => s

/-- A, X, Y, S, P, PC and the cost of the last step. -/
def regs (s : State) : Byte × Byte × Byte × Byte × Byte × Word × Nat := (s.a, s.x, s.y, s.sp, s.p, s.pc, s.cyc)

/-- The value of a bus read; `none` if it is fatal. -/
def readValue (s : State) (a : Word) : Option Byte :=
  match busRead a s with
  | .ok v _ => some v
  | .fatal _ _ => none

/-- The state after a bus read. -/
def afterRead (s : State) (a : Word) : State :=
  match busRead a s with
  | .ok _ t => t
  | .fatal _ t => t

/-- The state after a bus write. -/
def afterWrite (s : State) (a : Word) (v : Byte) : State :=
  match busWrite a v s with
  | .ok _ t => t
  | .fatal _ t => t

/-- A bus access completes. -/
def completes {α : Type} : Access α → Bool
  | .ok _ _ => true
  | .fatal _ _ => false

/-- An outcome is a next state. -/
def isNext (r : Host.Outcome State Fault Refusal) : Bool :=
  match r with
  | .next _ => true
  | .fault _ => false
  | .refused _ => false

/-! ## WellFormed -/

/-- R9: the number of cycles per scanline is positive; 0 is refused. -/
theorem test_wf_refuses_zero_cycles_per_scanline : (State.reset.cfg.wf = true) ∧
    Config.wf { Config.default with cyclesPerScanline := 0 } = false := by decide

/-- R127: no operand value of a defined instruction is illegal. -/
theorem test_wf_accepts_boundary_operands : Instr.wf (.ldaImm 0xFF) = true ∧ Instr.wf (.jmpAbs 0xFFFF) = true := by decide

/-! ## Decode: one written-out word for every constructor (R124, R125) -/

theorem test_decode_loads_1 :
    decode [0xA9, 0x34] = .ok (.ldaImm 0x34, []) ∧
    decode [0xA5, 0x34] = .ok (.ldaZp 0x34, []) ∧
    decode [0xB5, 0x34] = .ok (.ldaZpx 0x34, []) ∧
    decode [0xAD, 0x34, 0x12] = .ok (.ldaAbs 0x1234, []) ∧
    decode [0xBD, 0x34, 0x12] = .ok (.ldaAbsx 0x1234, []) ∧
    decode [0xB9, 0x34, 0x12] = .ok (.ldaAbsy 0x1234, []) ∧
    decode [0xA1, 0x34] = .ok (.ldaIndx 0x34, []) ∧
    decode [0xB1, 0x34] = .ok (.ldaIndy 0x34, []) ∧
    decode [0xA2, 0x34] = .ok (.ldxImm 0x34, []) ∧
    decode [0xA6, 0x34] = .ok (.ldxZp 0x34, []) ∧
    decode [0xB6, 0x34] = .ok (.ldxZpy 0x34, []) ∧
    decode [0xAE, 0x34, 0x12] = .ok (.ldxAbs 0x1234, []) ∧
    decode [0xBE, 0x34, 0x12] = .ok (.ldxAbsy 0x1234, []) ∧
    decode [0xA0, 0x34] = .ok (.ldyImm 0x34, []) ∧
    decode [0xA4, 0x34] = .ok (.ldyZp 0x34, []) ∧
    decode [0xB4, 0x34] = .ok (.ldyZpx 0x34, []) :=
  ⟨rfl, rfl, rfl, rfl, rfl, rfl, rfl, rfl, rfl, rfl, rfl, rfl, rfl, rfl, rfl, rfl⟩

theorem test_decode_loads_2 :
    decode [0xAC, 0x34, 0x12] = .ok (.ldyAbs 0x1234, []) ∧
    decode [0xBC, 0x34, 0x12] = .ok (.ldyAbsx 0x1234, []) :=
  ⟨rfl, rfl⟩

theorem test_decode_stores :
    decode [0x85, 0x34] = .ok (.staZp 0x34, []) ∧
    decode [0x95, 0x34] = .ok (.staZpx 0x34, []) ∧
    decode [0x8D, 0x34, 0x12] = .ok (.staAbs 0x1234, []) ∧
    decode [0x9D, 0x34, 0x12] = .ok (.staAbsx 0x1234, []) ∧
    decode [0x99, 0x34, 0x12] = .ok (.staAbsy 0x1234, []) ∧
    decode [0x81, 0x34] = .ok (.staIndx 0x34, []) ∧
    decode [0x91, 0x34] = .ok (.staIndy 0x34, []) ∧
    decode [0x86, 0x34] = .ok (.stxZp 0x34, []) ∧
    decode [0x96, 0x34] = .ok (.stxZpy 0x34, []) ∧
    decode [0x8E, 0x34, 0x12] = .ok (.stxAbs 0x1234, []) ∧
    decode [0x84, 0x34] = .ok (.styZp 0x34, []) ∧
    decode [0x94, 0x34] = .ok (.styZpx 0x34, []) ∧
    decode [0x8C, 0x34, 0x12] = .ok (.styAbs 0x1234, []) :=
  ⟨rfl, rfl, rfl, rfl, rfl, rfl, rfl, rfl, rfl, rfl, rfl, rfl, rfl⟩

theorem test_decode_transfers :
    decode [0xAA] = .ok (.tax, []) ∧
    decode [0xA8] = .ok (.tay, []) ∧
    decode [0xBA] = .ok (.tsx, []) ∧
    decode [0x8A] = .ok (.txa, []) ∧
    decode [0x9A] = .ok (.txs, []) ∧
    decode [0x98] = .ok (.tya, []) :=
  ⟨rfl, rfl, rfl, rfl, rfl, rfl⟩

theorem test_decode_stack :
    decode [0x48] = .ok (.pha, []) ∧
    decode [0x08] = .ok (.php, []) ∧
    decode [0x68] = .ok (.pla, []) ∧
    decode [0x28] = .ok (.plp, []) :=
  ⟨rfl, rfl, rfl, rfl⟩

theorem test_decode_add_subtract :
    decode [0x69, 0x34] = .ok (.adcImm 0x34, []) ∧
    decode [0x65, 0x34] = .ok (.adcZp 0x34, []) ∧
    decode [0x75, 0x34] = .ok (.adcZpx 0x34, []) ∧
    decode [0x6D, 0x34, 0x12] = .ok (.adcAbs 0x1234, []) ∧
    decode [0x7D, 0x34, 0x12] = .ok (.adcAbsx 0x1234, []) ∧
    decode [0x79, 0x34, 0x12] = .ok (.adcAbsy 0x1234, []) ∧
    decode [0x61, 0x34] = .ok (.adcIndx 0x34, []) ∧
    decode [0x71, 0x34] = .ok (.adcIndy 0x34, []) ∧
    decode [0xE9, 0x34] = .ok (.sbcImm 0x34, []) ∧
    decode [0xE5, 0x34] = .ok (.sbcZp 0x34, []) ∧
    decode [0xF5, 0x34] = .ok (.sbcZpx 0x34, []) ∧
    decode [0xED, 0x34, 0x12] = .ok (.sbcAbs 0x1234, []) ∧
    decode [0xFD, 0x34, 0x12] = .ok (.sbcAbsx 0x1234, []) ∧
    decode [0xF9, 0x34, 0x12] = .ok (.sbcAbsy 0x1234, []) ∧
    decode [0xE1, 0x34] = .ok (.sbcIndx 0x34, []) ∧
    decode [0xF1, 0x34] = .ok (.sbcIndy 0x34, []) :=
  ⟨rfl, rfl, rfl, rfl, rfl, rfl, rfl, rfl, rfl, rfl, rfl, rfl, rfl, rfl, rfl, rfl⟩

theorem test_decode_logic_1 :
    decode [0x29, 0x34] = .ok (.andImm 0x34, []) ∧
    decode [0x25, 0x34] = .ok (.andZp 0x34, []) ∧
    decode [0x35, 0x34] = .ok (.andZpx 0x34, []) ∧
    decode [0x2D, 0x34, 0x12] = .ok (.andAbs 0x1234, []) ∧
    decode [0x3D, 0x34, 0x12] = .ok (.andAbsx 0x1234, []) ∧
    decode [0x39, 0x34, 0x12] = .ok (.andAbsy 0x1234, []) ∧
    decode [0x21, 0x34] = .ok (.andIndx 0x34, []) ∧
    decode [0x31, 0x34] = .ok (.andIndy 0x34, []) ∧
    decode [0x09, 0x34] = .ok (.oraImm 0x34, []) ∧
    decode [0x05, 0x34] = .ok (.oraZp 0x34, []) ∧
    decode [0x15, 0x34] = .ok (.oraZpx 0x34, []) ∧
    decode [0x0D, 0x34, 0x12] = .ok (.oraAbs 0x1234, []) ∧
    decode [0x1D, 0x34, 0x12] = .ok (.oraAbsx 0x1234, []) ∧
    decode [0x19, 0x34, 0x12] = .ok (.oraAbsy 0x1234, []) ∧
    decode [0x01, 0x34] = .ok (.oraIndx 0x34, []) ∧
    decode [0x11, 0x34] = .ok (.oraIndy 0x34, []) :=
  ⟨rfl, rfl, rfl, rfl, rfl, rfl, rfl, rfl, rfl, rfl, rfl, rfl, rfl, rfl, rfl, rfl⟩

theorem test_decode_logic_2 :
    decode [0x49, 0x34] = .ok (.eorImm 0x34, []) ∧
    decode [0x45, 0x34] = .ok (.eorZp 0x34, []) ∧
    decode [0x55, 0x34] = .ok (.eorZpx 0x34, []) ∧
    decode [0x4D, 0x34, 0x12] = .ok (.eorAbs 0x1234, []) ∧
    decode [0x5D, 0x34, 0x12] = .ok (.eorAbsx 0x1234, []) ∧
    decode [0x59, 0x34, 0x12] = .ok (.eorAbsy 0x1234, []) ∧
    decode [0x41, 0x34] = .ok (.eorIndx 0x34, []) ∧
    decode [0x51, 0x34] = .ok (.eorIndy 0x34, []) ∧
    decode [0x24, 0x34] = .ok (.bitZp 0x34, []) ∧
    decode [0x2C, 0x34, 0x12] = .ok (.bitAbs 0x1234, []) :=
  ⟨rfl, rfl, rfl, rfl, rfl, rfl, rfl, rfl, rfl, rfl⟩

theorem test_decode_compare :
    decode [0xC9, 0x34] = .ok (.cmpImm 0x34, []) ∧
    decode [0xC5, 0x34] = .ok (.cmpZp 0x34, []) ∧
    decode [0xD5, 0x34] = .ok (.cmpZpx 0x34, []) ∧
    decode [0xCD, 0x34, 0x12] = .ok (.cmpAbs 0x1234, []) ∧
    decode [0xDD, 0x34, 0x12] = .ok (.cmpAbsx 0x1234, []) ∧
    decode [0xD9, 0x34, 0x12] = .ok (.cmpAbsy 0x1234, []) ∧
    decode [0xC1, 0x34] = .ok (.cmpIndx 0x34, []) ∧
    decode [0xD1, 0x34] = .ok (.cmpIndy 0x34, []) ∧
    decode [0xE0, 0x34] = .ok (.cpxImm 0x34, []) ∧
    decode [0xE4, 0x34] = .ok (.cpxZp 0x34, []) ∧
    decode [0xEC, 0x34, 0x12] = .ok (.cpxAbs 0x1234, []) ∧
    decode [0xC0, 0x34] = .ok (.cpyImm 0x34, []) ∧
    decode [0xC4, 0x34] = .ok (.cpyZp 0x34, []) ∧
    decode [0xCC, 0x34, 0x12] = .ok (.cpyAbs 0x1234, []) :=
  ⟨rfl, rfl, rfl, rfl, rfl, rfl, rfl, rfl, rfl, rfl, rfl, rfl, rfl, rfl⟩

theorem test_decode_increment :
    decode [0xE6, 0x34] = .ok (.incZp 0x34, []) ∧
    decode [0xF6, 0x34] = .ok (.incZpx 0x34, []) ∧
    decode [0xEE, 0x34, 0x12] = .ok (.incAbs 0x1234, []) ∧
    decode [0xFE, 0x34, 0x12] = .ok (.incAbsx 0x1234, []) ∧
    decode [0xC6, 0x34] = .ok (.decZp 0x34, []) ∧
    decode [0xD6, 0x34] = .ok (.decZpx 0x34, []) ∧
    decode [0xCE, 0x34, 0x12] = .ok (.decAbs 0x1234, []) ∧
    decode [0xDE, 0x34, 0x12] = .ok (.decAbsx 0x1234, []) ∧
    decode [0xE8] = .ok (.inx, []) ∧
    decode [0xC8] = .ok (.iny, []) ∧
    decode [0xCA] = .ok (.dex, []) ∧
    decode [0x88] = .ok (.dey, []) :=
  ⟨rfl, rfl, rfl, rfl, rfl, rfl, rfl, rfl, rfl, rfl, rfl, rfl⟩

theorem test_decode_shift_1 :
    decode [0x0A] = .ok (.aslAcc, []) ∧
    decode [0x06, 0x34] = .ok (.aslZp 0x34, []) ∧
    decode [0x16, 0x34] = .ok (.aslZpx 0x34, []) ∧
    decode [0x0E, 0x34, 0x12] = .ok (.aslAbs 0x1234, []) ∧
    decode [0x1E, 0x34, 0x12] = .ok (.aslAbsx 0x1234, []) ∧
    decode [0x4A] = .ok (.lsrAcc, []) ∧
    decode [0x46, 0x34] = .ok (.lsrZp 0x34, []) ∧
    decode [0x56, 0x34] = .ok (.lsrZpx 0x34, []) ∧
    decode [0x4E, 0x34, 0x12] = .ok (.lsrAbs 0x1234, []) ∧
    decode [0x5E, 0x34, 0x12] = .ok (.lsrAbsx 0x1234, []) ∧
    decode [0x2A] = .ok (.rolAcc, []) ∧
    decode [0x26, 0x34] = .ok (.rolZp 0x34, []) ∧
    decode [0x36, 0x34] = .ok (.rolZpx 0x34, []) ∧
    decode [0x2E, 0x34, 0x12] = .ok (.rolAbs 0x1234, []) ∧
    decode [0x3E, 0x34, 0x12] = .ok (.rolAbsx 0x1234, []) ∧
    decode [0x6A] = .ok (.rorAcc, []) :=
  ⟨rfl, rfl, rfl, rfl, rfl, rfl, rfl, rfl, rfl, rfl, rfl, rfl, rfl, rfl, rfl, rfl⟩

theorem test_decode_shift_2 :
    decode [0x66, 0x34] = .ok (.rorZp 0x34, []) ∧
    decode [0x76, 0x34] = .ok (.rorZpx 0x34, []) ∧
    decode [0x6E, 0x34, 0x12] = .ok (.rorAbs 0x1234, []) ∧
    decode [0x7E, 0x34, 0x12] = .ok (.rorAbsx 0x1234, []) :=
  ⟨rfl, rfl, rfl, rfl⟩

theorem test_decode_jump :
    decode [0x4C, 0x34, 0x12] = .ok (.jmpAbs 0x1234, []) ∧
    decode [0x6C, 0x34, 0x12] = .ok (.jmpInd 0x1234, []) ∧
    decode [0x20, 0x34, 0x12] = .ok (.jsrAbs 0x1234, []) ∧
    decode [0x60] = .ok (.rts, []) ∧
    decode [0x40] = .ok (.rti, []) ∧
    decode [0x00] = .ok (.brk, []) :=
  ⟨rfl, rfl, rfl, rfl, rfl, rfl⟩

theorem test_decode_branch :
    decode [0x90, 0x34] = .ok (.bcc 0x34, []) ∧
    decode [0xB0, 0x34] = .ok (.bcs 0x34, []) ∧
    decode [0xF0, 0x34] = .ok (.beq 0x34, []) ∧
    decode [0x30, 0x34] = .ok (.bmi 0x34, []) ∧
    decode [0xD0, 0x34] = .ok (.bne 0x34, []) ∧
    decode [0x10, 0x34] = .ok (.bpl 0x34, []) ∧
    decode [0x50, 0x34] = .ok (.bvc 0x34, []) ∧
    decode [0x70, 0x34] = .ok (.bvs 0x34, []) :=
  ⟨rfl, rfl, rfl, rfl, rfl, rfl, rfl, rfl⟩

theorem test_decode_flag :
    decode [0x18] = .ok (.clc, []) ∧
    decode [0xD8] = .ok (.cld, []) ∧
    decode [0x58] = .ok (.cli, []) ∧
    decode [0xB8] = .ok (.clv, []) ∧
    decode [0x38] = .ok (.sec, []) ∧
    decode [0xF8] = .ok (.sed, []) ∧
    decode [0x78] = .ok (.sei, []) ∧
    decode [0xEA] = .ok (.nop, []) :=
  ⟨rfl, rfl, rfl, rfl, rfl, rfl, rfl, rfl⟩

/-- R126: the ends of the list of undefined opcodes; and a string that ends early is no instruction. -/
theorem test_decode_refuses : decode [0x02] = .error (.undefinedOpcode 0x02) ∧
    decode [0xFF] = .error (.undefinedOpcode 0xFF) ∧ decode [0xAD, 0x34] = .error .truncated ∧
    decode [] = .error .truncated := ⟨rfl, rfl, rfl, rfl⟩

/-- Bit 0 of a table word is the least significant bit of the first byte; the bits above `nbits` are 0. -/
theorem test_decodeTableWord : decodeTableWord 24 0x12347D = some (.adcAbsx 0x1234) ∧
    decodeTableWord 8 0xA9 = some (.ldaImm 0x00) ∧ decodeTableWord 8 0x02 = none := by decide

theorem test_withFetchWord_runs_the_word :
    regs (after (State.reset.withFetchWord 16 0x80A2)) = (0x00, 0x80, 0x00, 0xFF, 0xA0, 0x0002, 2) := by decide

/-- 30_encoding.md R128: the written form, and the displacement of BNE loop in program T2. -/
theorem test_assembly : asmText 0x8000 (.ldaIndx 0x20) = "LDA ($20,X)".toList ∧
    branchByte 0x800A 0x8004 = some 0xF8 ∧ branchByte 0x8000 0x9000 = none := by decide

/-! ## One step per instruction (95_test_vectors.md part 2) -/

/-- A1 -/
theorem test_lda_zpx_wraps_in_page_zero :
    regs (after ((State.with (at8000 [0xB5, 0xF0]) 0x0010 0x77).setX 0x20)) = (0x77, 0x20, 0x00, 0xFF, 0x20, 0x8002, 4) := by decide

/-- A2 -/
theorem test_ldx_zpy :
    regs (after ((State.with (at8000 [0xB6, 0xFF]) 0x0001 0x66).setY 0x02)) = (0x00, 0x66, 0x02, 0xFF, 0x20, 0x8002, 4) := by decide

/-- A3 -/
theorem test_lda_absx_crossing :
    regs (after ((State.with (at8000 [0xBD, 0xF0, 0x12]) 0x1310 0x33).setX 0x20)) = (0x33, 0x20, 0x00, 0xFF, 0x20, 0x8003, 5) := by decide

/-- A5 -/
theorem test_lda_absy_wraps_the_address :
    regs (after ((State.with (at8000 [0xB9, 0xFF, 0xFF]) 0x0000 0x44).setY 0x01)) = (0x44, 0x00, 0x01, 0xFF, 0x20, 0x8003, 5) := by decide

/-- A6 -/
theorem test_sta_absx_pays_no_crossing :
    regs (after (((at8000 [0x9D, 0xF0, 0x12]).setA 0x5A).setX 0x20)) = (0x5A, 0x20, 0x00, 0xFF, 0x20, 0x8003, 5) ∧
    [0x1310].map (peek (after (((at8000 [0x9D, 0xF0, 0x12]).setA 0x5A).setX 0x20))) = [some 0x5A] := by decide

/-- A8 -/
theorem test_lda_indx_pointer_wraps :
    regs (after ((State.with (State.with (State.with (at8000 [0xA1, 0xFE]) 0x00FF 0x00) 0x0000 0x03) 0x0300 0x99).setX 0x01)) = (0x99, 0x01, 0x00, 0xFF, 0xA0, 0x8002, 6) := by decide

/-- A9 -/
theorem test_lda_indy_pointer_wraps :
    regs (after ((State.with (State.with (State.with (at8000 [0xB1, 0xFF]) 0x00FF 0x00) 0x0000 0x04) 0x0405 0xAB).setY 0x05)) = (0xAB, 0x00, 0x05, 0xFF, 0xA0, 0x8002, 5) := by decide

/-- A10 -/
theorem test_lda_indy_crossing :
    regs (after ((State.with (State.with (State.with (at8000 [0xB1, 0x40]) 0x0040 0xF8) 0x0041 0x02) 0x0308 0xCD).setY 0x10)) = (0xCD, 0x00, 0x10, 0xFF, 0xA0, 0x8002, 6) := by decide

/-- A11 -/
theorem test_sta_indy :
    regs (after (((State.with (State.with (at8000 [0x91, 0x40]) 0x0040 0xF8) 0x0041 0x02).setA 0x11).setY 0x10)) = (0x11, 0x00, 0x10, 0xFF, 0x20, 0x8002, 6) ∧
    [0x0308].map (peek (after (((State.with (State.with (at8000 [0x91, 0x40]) 0x0040 0xF8) 0x0041 0x02).setA 0x11).setY 0x10))) = [some 0x11] := by decide

/-- W5 -/
theorem test_jmp_indirect_keeps_the_page :
    regs (after (State.with (State.with (State.with (at8000 [0x6C, 0xFF, 0x02]) 0x02FF 0x34) 0x0200 0x12) 0x0300 0x56)) = (0x00, 0x00, 0x00, 0xFF, 0x20, 0x1234, 5) := by decide

/-- A13 -/
theorem test_bne_not_taken :
    regs (after ((at8000 [0xD0, 0xFE]).setP 0x22)) = (0x00, 0x00, 0x00, 0xFF, 0x22, 0x8002, 2) := by decide

/-- A14 -/
theorem test_bne_taken :
    regs (after (at8000 [0xD0, 0xFE])) = (0x00, 0x00, 0x00, 0xFF, 0x20, 0x8000, 3) := by decide

/-- A15 -/
theorem test_beq_taken_across_a_page :
    regs (after ((at8000 [0xF0, 0x80]).setP 0x22)) = (0x00, 0x00, 0x00, 0xFF, 0x22, 0x7F82, 4) := by decide

/-- A16 with `PAGE_CROSS_PENALTY` false -/
theorem test_beq_without_penalty :
    regs (after ((((State.with (State.with State.reset 0x80F0 0xF0) 0x80F1 0x20).setP 0x22).setPc 0x80F0).setCfg
      { Config.default with pageCrossPenalty := false })) = (0x00, 0x00, 0x00, 0xFF, 0x22, 0x8112, 3) := by decide

/-- A17 -/
theorem test_ldx_absy :
    regs (after ((State.with (at8000 [0xBE, 0xF0, 0x12]) 0x1310 0x01).setY 0x20)) = (0x00, 0x01, 0x20, 0xFF, 0x20, 0x8003, 5) := by decide

/-- B1 -/
theorem test_lda_imm_zero :
    regs (after ((at8000 [0xA9, 0x00]).setA 0x11)) = (0x00, 0x00, 0x00, 0xFF, 0x22, 0x8002, 2) := by decide

/-- B2 -/
theorem test_ldx_imm_negative :
    regs (after (at8000 [0xA2, 0x80])) = (0x00, 0x80, 0x00, 0xFF, 0xA0, 0x8002, 2) := by decide

/-- B3 -/
theorem test_ldy_absx :
    regs (after ((State.with (at8000 [0xBC, 0xF0, 0x12]) 0x1310 0x00).setX 0x20)) = (0x00, 0x20, 0x00, 0xFF, 0x22, 0x8003, 5) := by decide

/-- B4 -/
theorem test_stx_zpy :
    regs (after (((at8000 [0x96, 0xFF]).setX 0x42).setY 0x02)) = (0x00, 0x42, 0x02, 0xFF, 0x20, 0x8002, 4) ∧
    [0x0001].map (peek (after (((at8000 [0x96, 0xFF]).setX 0x42).setY 0x02))) = [some 0x42] := by decide

/-- B5 -/
theorem test_sty_abs :
    regs (after ((at8000 [0x8C, 0xFF, 0x07]).setY 0x9C)) = (0x00, 0x00, 0x9C, 0xFF, 0x20, 0x8003, 4) ∧
    [0x07FF, 0x1FFF].map (peek (after ((at8000 [0x8C, 0xFF, 0x07]).setY 0x9C))) = [some 0x9C, some 0x9C] := by decide

/-- B6 -/
theorem test_tax :
    regs (after ((at8000 [0xAA]).setX 0x55)) = (0x00, 0x00, 0x00, 0xFF, 0x22, 0x8001, 2) := by decide

/-- B7 -/
theorem test_tay :
    regs (after ((at8000 [0xA8]).setA 0x80)) = (0x80, 0x00, 0x80, 0xFF, 0xA0, 0x8001, 2) := by decide

/-- B8 -/
theorem test_txa :
    regs (after ((at8000 [0x8A]).setX 0xFF)) = (0xFF, 0xFF, 0x00, 0xFF, 0xA0, 0x8001, 2) := by decide

/-- B9 -/
theorem test_tya :
    regs (after ((at8000 [0x98]).setY 0x01)) = (0x01, 0x00, 0x01, 0xFF, 0x20, 0x8001, 2) := by decide

/-- B10 -/
theorem test_tsx :
    regs (after ((at8000 [0xBA]).setSp 0xFD)) = (0x00, 0xFD, 0x00, 0xFD, 0xA0, 0x8001, 2) := by decide

/-- B11 -/
theorem test_txs_writes_no_flag :
    regs (after ((at8000 [0x9A]).setP 0xA0)) = (0x00, 0x00, 0x00, 0x00, 0xA0, 0x8001, 2) := by decide

/-- B12 -/
theorem test_sta_zp :
    regs (after ((State.with (at8000 [0x85, 0x10]) 0x0010 0xFF).setA 0x01)) = (0x01, 0x00, 0x00, 0xFF, 0x20, 0x8002, 3) ∧
    [0x0010].map (peek (after ((State.with (at8000 [0x85, 0x10]) 0x0010 0xFF).setA 0x01))) = [some 0x01] := by decide

/-- C1 -/
theorem test_pha_wraps :
    regs (after (((at8000 [0x48]).setA 0x42).setSp 0x00)) = (0x42, 0x00, 0x00, 0xFF, 0x20, 0x8001, 3) ∧
    [0x0100].map (peek (after (((at8000 [0x48]).setA 0x42).setSp 0x00))) = [some 0x42] := by decide

/-- C2 -/
theorem test_pla_wraps :
    regs (after (State.with (at8000 [0x68]) 0x0100 0x80)) = (0x80, 0x00, 0x00, 0x00, 0xA0, 0x8001, 4) := by decide

/-- C4 -/
theorem test_php_pushes_b_and_u_set :
    regs (after ((at8000 [0x08]).setP 0xE3)) = (0x00, 0x00, 0x00, 0xFE, 0xE3, 0x8001, 3) ∧
    [0x01FF].map (peek (after ((at8000 [0x08]).setP 0xE3))) = [some 0xF3] := by decide

/-- C6 -/
theorem test_plp_forces_bit_5 :
    regs (after ((State.with (at8000 [0x28]) 0x01FF 0x00).setSp 0xFE)) = (0x00, 0x00, 0x00, 0xFF, 0x20, 0x8001, 4) := by decide

/-- C7 -/
theorem test_plp_drops_bit_4 :
    regs (after ((State.with (at8000 [0x28]) 0x01FF 0xFF).setSp 0xFE)) = (0x00, 0x00, 0x00, 0xFF, 0xEF, 0x8001, 4) := by decide

/-- W2 -/
theorem test_adc_signed_overflow :
    regs (after ((at8000 [0x69, 0x01]).setA 0x7F)) = (0x80, 0x00, 0x00, 0xFF, 0xE0, 0x8002, 2) := by decide

/-- D7 -/
theorem test_adc_ignores_decimal_mode :
    regs (after (((at8000 [0x69, 0x01]).setA 0x09).setP 0x28)) = (0x0A, 0x00, 0x00, 0xFF, 0x28, 0x8002, 2) := by decide

/-- D6, with the operand in memory -/
theorem test_adc_zp :
    regs (after ((State.with (at8000 [0x65, 0x10]) 0x0010 0x90).setA 0xD0)) = (0x60, 0x00, 0x00, 0xFF, 0x61, 0x8002, 3) := by decide

/-- W3 -/
theorem test_sbc_borrow :
    regs (after ((at8000 [0xE9, 0x01]).setP 0x21)) = (0xFF, 0x00, 0x00, 0xFF, 0xA0, 0x8002, 2) := by decide

/-- D8 -/
theorem test_sbc_signed_overflow :
    regs (after (((at8000 [0xE9, 0x01]).setA 0x80).setP 0x21)) = (0x7F, 0x00, 0x00, 0xFF, 0x61, 0x8002, 2) := by decide

/-- D10 -/
theorem test_sbc_with_borrow_in :
    regs (after ((at8000 [0xE9, 0x03]).setA 0x05)) = (0x01, 0x00, 0x00, 0xFF, 0x21, 0x8002, 2) := by decide

/-- D14 -/
theorem test_and_imm :
    regs (after ((at8000 [0x29, 0x0F]).setA 0xF0)) = (0x00, 0x00, 0x00, 0xFF, 0x22, 0x8002, 2) := by decide

/-- D15 -/
theorem test_ora_imm :
    regs (after ((at8000 [0x09, 0x80]).setA 0x01)) = (0x81, 0x00, 0x00, 0xFF, 0xA0, 0x8002, 2) := by decide

/-- D16 -/
theorem test_eor_imm :
    regs (after ((at8000 [0x49, 0xFF]).setA 0xAA)) = (0x55, 0x00, 0x00, 0xFF, 0x20, 0x8002, 2) := by decide

/-- D17 -/
theorem test_bit_zp :
    regs (after ((State.with (at8000 [0x24, 0x10]) 0x0010 0xC0).setA 0x01)) = (0x01, 0x00, 0x00, 0xFF, 0xE2, 0x8002, 3) := by decide

/-- D18 -/
theorem test_bit_abs :
    regs (after (((State.with (at8000 [0x2C, 0x00, 0x03]) 0x0300 0x3F).setA 0x0F).setP 0xE0)) = (0x0F, 0x00, 0x00, 0xFF, 0x20, 0x8003, 4) := by decide

/-- D19 -/
theorem test_cmp_keeps_overflow :
    regs (after (((at8000 [0xC9, 0x20]).setA 0x10).setP 0x60)) = (0x10, 0x00, 0x00, 0xFF, 0xE0, 0x8002, 2) := by decide

/-- W4 -/
theorem test_cmp_equal :
    regs (after ((at8000 [0xC9, 0x10]).setA 0x10)) = (0x10, 0x00, 0x00, 0xFF, 0x23, 0x8002, 2) := by decide

/-- D22 -/
theorem test_cpx_imm :
    regs (after (((at8000 [0xE0, 0x03]).setX 0x05).setP 0x60)) = (0x00, 0x05, 0x00, 0xFF, 0x61, 0x8002, 2) := by decide

/-- D23 -/
theorem test_cpy_imm :
    regs (after (((at8000 [0xC0, 0x00]).setY 0x80).setP 0x60)) = (0x00, 0x00, 0x80, 0xFF, 0xE1, 0x8002, 2) := by decide

/-- D24 -/
theorem test_inc_zp :
    regs (after (State.with (at8000 [0xE6, 0x10]) 0x0010 0xFF)) = (0x00, 0x00, 0x00, 0xFF, 0x22, 0x8002, 5) ∧
    [0x0010].map (peek (after (State.with (at8000 [0xE6, 0x10]) 0x0010 0xFF))) = [some 0x00] := by decide

/-- D25 -/
theorem test_dec_zp :
    regs (after (at8000 [0xC6, 0x10])) = (0x00, 0x00, 0x00, 0xFF, 0xA0, 0x8002, 5) ∧
    [0x0010].map (peek (after (at8000 [0xC6, 0x10]))) = [some 0xFF] := by decide

/-- D26 -/
theorem test_inc_absx :
    regs (after ((State.with (at8000 [0xFE, 0xF0, 0x12]) 0x1310 0x7F).setX 0x20)) = (0x00, 0x20, 0x00, 0xFF, 0xA0, 0x8003, 7) ∧
    [0x1310].map (peek (after ((State.with (at8000 [0xFE, 0xF0, 0x12]) 0x1310 0x7F).setX 0x20))) = [some 0x80] := by decide

/-- D27 -/
theorem test_inx :
    regs (after ((at8000 [0xE8]).setX 0xFF)) = (0x00, 0x00, 0x00, 0xFF, 0x22, 0x8001, 2) := by decide

/-- D28 -/
theorem test_iny :
    regs (after ((at8000 [0xC8]).setY 0x7F)) = (0x00, 0x00, 0x80, 0xFF, 0xA0, 0x8001, 2) := by decide

/-- D29 -/
theorem test_dex :
    regs (after (at8000 [0xCA])) = (0x00, 0xFF, 0x00, 0xFF, 0xA0, 0x8001, 2) := by decide

/-- D30 -/
theorem test_dey :
    regs (after ((at8000 [0x88]).setY 0x01)) = (0x00, 0x00, 0x00, 0xFF, 0x22, 0x8001, 2) := by decide

/-- E1 -/
theorem test_asl_a :
    regs (after ((at8000 [0x0A]).setA 0x80)) = (0x00, 0x00, 0x00, 0xFF, 0x23, 0x8001, 2) := by decide

/-- E2 -/
theorem test_lsr_a :
    regs (after (((at8000 [0x4A]).setA 0x01).setP 0xA0)) = (0x00, 0x00, 0x00, 0xFF, 0x23, 0x8001, 2) := by decide

/-- E3 -/
theorem test_rol_a :
    regs (after ((at8000 [0x2A]).setA 0x80)) = (0x00, 0x00, 0x00, 0xFF, 0x23, 0x8001, 2) := by decide

/-- E5 -/
theorem test_ror_a :
    regs (after ((at8000 [0x6A]).setP 0x21)) = (0x80, 0x00, 0x00, 0xFF, 0xA0, 0x8001, 2) := by decide

/-- E6 -/
theorem test_rol_zp :
    regs (after ((State.with (at8000 [0x26, 0x10]) 0x0010 0x40).setP 0x21)) = (0x00, 0x00, 0x00, 0xFF, 0xA0, 0x8002, 5) ∧
    [0x0010].map (peek (after ((State.with (at8000 [0x26, 0x10]) 0x0010 0x40).setP 0x21))) = [some 0x81] := by decide

/-- E7 -/
theorem test_lsr_absx :
    regs (after ((State.with (at8000 [0x5E, 0xF0, 0x12]) 0x1310 0x03).setX 0x20)) = (0x00, 0x20, 0x00, 0xFF, 0x21, 0x8003, 7) ∧
    [0x1310].map (peek (after ((State.with (at8000 [0x5E, 0xF0, 0x12]) 0x1310 0x03).setX 0x20))) = [some 0x01] := by decide

/-- F1 -/
theorem test_jmp_abs :
    regs (after (at8000 [0x4C, 0x34, 0x12])) = (0x00, 0x00, 0x00, 0xFF, 0x20, 0x1234, 3) := by decide

/-- F3 -/
theorem test_jsr_wraps_between_its_pushes :
    regs (after ((at8000 [0x20, 0x00, 0x90]).setSp 0x00)) = (0x00, 0x00, 0x00, 0xFE, 0x20, 0x9000, 6) ∧
    [0x0100, 0x01FF].map (peek (after ((at8000 [0x20, 0x00, 0x90]).setSp 0x00))) = [some 0x80, some 0x02] := by decide

/-- F4 -/
theorem test_rts :
    regs (after ((State.with (State.with (at8000 [0x60]) 0x01FE 0x02) 0x01FF 0x80).setSp 0xFD)) = (0x00, 0x00, 0x00, 0xFF, 0x20, 0x8003, 6) := by decide

/-- F6 -/
theorem test_rti :
    regs (after ((State.with (State.with (State.with (at8000 [0x40]) 0x01FD 0xFF) 0x01FE 0x34) 0x01FF 0x12).setSp 0xFC)) = (0x00, 0x00, 0x00, 0xFF, 0xEF, 0x1234, 6) := by decide

/-- F7 -/
theorem test_brk :
    regs (after ((State.with (State.with (at8000 [0x00]) 0xFFFE 0x00) 0xFFFF 0x90).setP 0xE3)) = (0x00, 0x00, 0x00, 0xFC, 0xE7, 0x9000, 7) ∧
    [0x01FF, 0x01FE, 0x01FD].map (peek (after ((State.with (State.with (at8000 [0x00]) 0xFFFE 0x00) 0xFFFF 0x90).setP 0xE3))) = [some 0x80, some 0x02, some 0xF3] := by decide

/-- F10 -/
theorem test_bcc :
    regs (after ((at8000 [0x90, 0x10]).setP 0x20)) = (0x00, 0x00, 0x00, 0xFF, 0x20, 0x8012, 3) := by decide

/-- F11 -/
theorem test_bcs :
    regs (after ((at8000 [0xB0, 0x10]).setP 0x21)) = (0x00, 0x00, 0x00, 0xFF, 0x21, 0x8012, 3) := by decide

/-- F12 -/
theorem test_bpl :
    regs (after ((at8000 [0x10, 0x10]).setP 0x20)) = (0x00, 0x00, 0x00, 0xFF, 0x20, 0x8012, 3) := by decide

/-- F13 -/
theorem test_bmi :
    regs (after ((at8000 [0x30, 0x10]).setP 0xA0)) = (0x00, 0x00, 0x00, 0xFF, 0xA0, 0x8012, 3) := by decide

/-- F14 -/
theorem test_bvc :
    regs (after ((at8000 [0x50, 0x10]).setP 0x20)) = (0x00, 0x00, 0x00, 0xFF, 0x20, 0x8012, 3) := by decide

/-- F15 -/
theorem test_bvs :
    regs (after ((at8000 [0x70, 0x10]).setP 0x60)) = (0x00, 0x00, 0x00, 0xFF, 0x60, 0x8012, 3) := by decide

/-- F15 -/
theorem test_bvs_not_taken :
    regs (after ((at8000 [0x70, 0x10]).setP 0x20)) = (0x00, 0x00, 0x00, 0xFF, 0x20, 0x8002, 2) := by decide

/-- F16 -/
theorem test_clc :
    regs (after ((at8000 [0x18]).setP 0xEF)) = (0x00, 0x00, 0x00, 0xFF, 0xEE, 0x8001, 2) := by decide

/-- F17 -/
theorem test_sec :
    regs (after ((at8000 [0x38]).setP 0x20)) = (0x00, 0x00, 0x00, 0xFF, 0x21, 0x8001, 2) := by decide

/-- F18 -/
theorem test_cli :
    regs (after ((at8000 [0x58]).setP 0x24)) = (0x00, 0x00, 0x00, 0xFF, 0x20, 0x8001, 2) := by decide

/-- F19 -/
theorem test_sei :
    regs (after ((at8000 [0x78]).setP 0x20)) = (0x00, 0x00, 0x00, 0xFF, 0x24, 0x8001, 2) := by decide

/-- F20 -/
theorem test_clv :
    regs (after ((at8000 [0xB8]).setP 0x60)) = (0x00, 0x00, 0x00, 0xFF, 0x20, 0x8001, 2) := by decide

/-- F21 -/
theorem test_cld :
    regs (after ((at8000 [0xD8]).setP 0x28)) = (0x00, 0x00, 0x00, 0xFF, 0x20, 0x8001, 2) := by decide

/-- F22 -/
theorem test_sed :
    regs (after ((at8000 [0xF8]).setP 0x20)) = (0x00, 0x00, 0x00, 0xFF, 0x28, 0x8001, 2) := by decide

/-- F23 -/
theorem test_nop :
    regs (after ((at8000 [0xEA]).setP 0xE3)) = (0x00, 0x00, 0x00, 0xFF, 0xE3, 0x8001, 2) := by decide

/-! ## The bus, the PPU port, the DMA and the controller (W7, W8, G, H) -/

/-- W8: a RAM byte is read at its three mirrors -/
theorem test_ram_mirrors : [0x0123, 0x0923, 0x1123, 0x1923].map (readValue (afterWrite State.reset 0x0123 0xA5)) =
    [some 0xA5, some 0xA5, some 0xA5, some 0xA5] := by decide

/-- H1, H2: PRG is not written, and 16 KB is mirrored -/
theorem test_prg_reads : readValue (afterWrite (at8000 [0x4C]) 0x8000 0x11) 0x8000 = some 0x4C ∧
    readValue (at8000 [0x4C]) 0xC000 = some 0x4C := by decide

/-- H3, H4 -/
theorem test_sram_and_io_reads : readValue (afterWrite State.reset 0x6000 0x11) 0x6000 = some 0x11 ∧
    [0x4000, 0x4017, 0x4020, 0x5FFF].map (readValue State.reset) = [some 0, some 0, some 0, some 0] ∧
    afterWrite State.reset 0x4017 0xFF = State.reset := by decide

/-- G1: a status read clears VBLANK and the toggle and keeps the sprite flags -/
theorem test_status_read :
    statusRead { State.reset.ppu with vblank := true, spr0Hit := true, sprOvf := true, w := true } =
      (0xE0, { State.reset.ppu with spr0Hit := true, sprOvf := true }) := by decide

/-- G2: the address pair -/
theorem test_address_pair :
    (addrWrite 0x21 State.reset.ppu).reg = { fv := 2, v := 0, h := 0, vt := 8, ht := 0 } ∧
    vramAddress (addrWrite 0x21 State.reset.ppu).cnt = 0x0000 ∧
    (addrWrite 0x08 (addrWrite 0x21 State.reset.ppu)).cnt = { fv := 2, v := 0, h := 0, vt := 8, ht := 8 } ∧
    vramAddress (addrWrite 0x08 (addrWrite 0x21 State.reset.ppu)).cnt = 0x2108 := by decide

/-- The PPU with the address pair written. -/
def addressed (hi lo : Byte) (p : Ppu) : Ppu := addrWrite lo (addrWrite hi p)

/-- G3: a PPUDATA write -/
theorem test_ppudata_write :
    (ppuDataWrite Config.default 0x55 (addressed 0x21 0x08 State.reset.ppu)).ciram.read 0x108 = 0x55 ∧
    vramAddress (ppuDataWrite Config.default 0x55 (addressed 0x21 0x08 State.reset.ppu)).cnt = 0x2109 := by decide

/-- G4: the first two buffered PPUDATA reads -/
theorem test_ppudata_reads_are_buffered :
    let p := addressed 0x20 0x00 { State.reset.ppu with ciram := [(0, 0xAA), (1, 0xBB)], readBuffer := 0x77 }
    let r := ppuDataRead Config.default p
    r.1 = 0x77 ∧ (ppuDataRead Config.default r.2).1 = 0xAA ∧
      (ppuDataRead Config.default (ppuDataRead Config.default r.2).2).1 = 0xBB := by decide

/-- G5: the palette is read at once, and the buffer takes the name table beneath -/
theorem test_palette_read_is_immediate :
    let p := addressed 0x3F 0x01 { State.reset.ppu with ciram := [(0x701, 0x5C)], palette := [(1, 0x2A)] }
    (ppuDataRead Config.default p).1 = 0x2A ∧ (ppuDataRead Config.default p).2.readBuffer = 0x5C ∧
      vramAddress (ppuDataRead Config.default p).2.cnt = 0x3F02 := by decide

/-- G6, G6a, G6b: the counters step by 32, ripple through the fields and leave the 14-bit address -/
theorem test_counter_steps :
    vramAddress (incrementScrollCounters { addressed 0x20 0x00 State.reset.ppu with ctrl := 0x04 }).cnt = 0x2020 ∧
    vramAddress (incrementScrollCounters (addressed 0x23 0xFF State.reset.ppu)).cnt = 0x2400 ∧
    vramAddress (incrementScrollCounters (addressed 0x3F 0xFF State.reset.ppu)).cnt = 0x0000 := by decide

/-- G6c, G6e: the scroll pair, and an address write as the second of a mixed pair -/
theorem test_scroll_writes :
    (scrollWrite 0x5E (scrollWrite 0x7D State.reset.ppu)).regFH = 5 ∧
    (scrollWrite 0x5E (scrollWrite 0x7D State.reset.ppu)).reg = { fv := 6, v := 0, h := 0, vt := 11, ht := 15 } ∧
    vramAddress (addrWrite 0x04 (scrollWrite 0x08 State.reset.ppu)).cnt = 0x0004 ∧
    (addrWrite 0x04 (scrollWrite 0x08 State.reset.ppu)).w = false := by decide

/-- G6f: name-table mirroring -/
theorem test_mirroring :
    ppuRead Config.default (ppuWrite Config.default State.reset.ppu 0x2800 0x11) 0x3000 = 0x11 ∧
    ppuRead { Config.default with mirroring := .horizontal }
      (ppuWrite { Config.default with mirroring := .horizontal } State.reset.ppu 0x2C00 0x22) 0x3800 = 0x22 := by decide

/-- G6g: palette aliases and the 14-bit mask -/
theorem test_palette_aliases :
    [0x3F14, 0x3F24, 0x7F04].map (ppuRead Config.default (ppuWrite Config.default State.reset.ppu 0x3F04 0x30)) =
      [0x30, 0x30, 0x30] := by decide

/-- G6h: OAMDATA writes wrap the cursor, and a read advances it -/
theorem test_oamdata :
    let p := oamDataWrite 0x33 (oamDataWrite 0x22 (oamDataWrite 0x11 (oamAddrWrite 0xFE State.reset.ppu)))
    p.oam = [(0x00, 0x33), (0xFE, 0x11), (0xFF, 0x22)] ∧ p.oamAddr = 0x01 ∧
      (oamDataRead (oamAddrWrite 0xFF p)).1 = 0x22 ∧ (oamDataRead (oamAddrWrite 0xFF p)).2.oamAddr = 0x00 := by decide

/-- G6i, G6j: the registers without a handler -/
theorem test_ports_without_handler :
    [0x2000, 0x2001, 0x2003, 0x2005, 0x2006, 0x3FF8].map (readValue State.reset) =
      [none, none, none, none, none, none] ∧
    busWrite 0x200A 0x00 State.reset =
      .fatal { addr := 0x200A, dir := .write } State.reset := by decide

set_option maxRecDepth 20000 in
/-- H5: STA $4014 copies from the cursor on; I4: its cost runs four scanlines -/
theorem test_sprite_dma :
    let s := State.with (State.with (at8000 [0x8D, 0x14, 0x40]) 0x0201 0x01) 0x02FF 0xFF
    let t := after ((s.setPpu (oamAddrWrite 0x10 s.ppu)).setA 0x02)
    t.ppu.oam = [(0x0F, 0xFF), (0x11, 0x01)] ∧ t.ppu.oamAddr = 0x10 ∧ t.cyc = 517 ∧ t.sched.line = 4 ∧
      t.sched.acc = 65 := by decide

/-- The controller after `n` reads. -/
def readPad : Nat → Pad → List Byte
  | 0, _ => []
  | n + 1, d => (padRead d).1 :: readPad n (padRead d).2

/-- H6: the button sequence and the ninth and tenth reads -/
theorem test_controller_sequence :
    readPad 10 (padWrite 0x00 (padWrite 0x01
      (keyDown .right (keyDown .left (keyDown .start (keyDown .a State.reset)))).pad)) =
        [1, 0, 0, 1, 0, 0, 1, 1, 1, 1] ∧
    (keyUp .a (keyDown .a State.reset)) = State.reset := by decide

/-! ## Scanlines (G) -/

/-- The setup of vectors G7 to G25, with sprite RAM and name-table RAM given. Entries not listed have Y 0: they cover
rows 1 to 8 and no row tested here. -/
def renderSetup (mask : Byte) (oam ciram : List (Nat × Byte)) : Ppu :=
  { State.reset.ppu with
    mask := mask
    chr := (List.range 8).map (fun k => (16 + k, 0xC0)) ++ (List.range 16).map fun k => (32 + k, 0xFF)
    palette := [(0x00, 0x0F), (0x01, 0x16), (0x02, 0x27), (0x03, 0x18), (0x05, 0x05), (0x11, 0x21), (0x13, 0x2C)] ++
      [(0x15, 0x1A), (0x17, 0x3D), (0x1F, 0x30)]
    oam := oam
    ciram := ciram }

/-- The PPU after a scanline step; the PPU itself if it is fatal. -/
def afterLine (l : Nat) (p : Ppu) : Ppu :=
  match renderScanline Config.default l p with
  | .done q _ => q
  | .fatal => p

/-- Pixels of a row of the frame. -/
def pixels (p : Ppu) (row : Nat) (xs : List Nat) : List (Option Pixel) :=
  match lookupKey row p.frame with
  | some r => xs.map fun x => r[x]?
  | none => []

set_option maxRecDepth 20000 in
/-- G9: the counters after the line; G13: grey -/
theorem test_background_line :
    reloadHorizontal Scroll.zero (incVertical (advanceTiles 33 Scroll.zero)) =
      { fv := 1, v := 0, h := 0, vt := 0, ht := 0 } ∧
    pixelAt Config.default (renderSetup 0x0B [] []) 0x3F01 = 0x10 ∧
    pixelAt Config.default (renderSetup 0x0B [] []) 0x3F00 = 0x00 := by decide

set_option maxRecDepth 20000 in
/-- G9: the whole row of a line with one background tile -/
theorem test_background_row :
    pixels (afterLine 21 (renderSetup 0x0A [] [(0, 1)])) 0 [0, 1, 2, 9] =
      [some 0x16, some 0x16, some 0x0F, some 0x0F] := by decide

set_option maxRecDepth 20000 in
/-- G10, G11, G12: fine scroll, the clipped left column, the attribute's palette -/
theorem test_background_scroll_clip_palette :
    (backgroundLine Config.default { renderSetup 0x0A [] [(0, 1)] with regFH := 1 }).take 2 = [(1, 0), (0, 0)] ∧
    (backgroundLine Config.default (renderSetup 0x08 [] [(0, 1)])).take 1 = [(0, 0)] ∧
    (tilePixels Config.default (renderSetup 0x0A [] [(0, 1), (0x3C0, 0x01)]) Scroll.zero).take 3 =
      [(1, 1), (1, 1), (0, 1)] := by decide

/-- One OAM entry. -/
def entry (i : Nat) (y t a x : Byte) : List (Nat × Byte) :=
  [(4 * i, y), (4 * i + 1, t), (4 * i + 2, a), (4 * i + 3, x)]

/-- Composed pixels of row 10 over one background pixel. -/
def row10 (p : Ppu) (bg : BgPixel) (xs : List Nat) : List Pixel :=
  xs.map fun x => composePixel Config.default p (selectedSprites p 10) bg x 10

set_option maxRecDepth 20000 in
/-- G14: sprite 0 in front of and behind an opaque background; it hits either way, except at x = 255 -/
theorem test_sprite_zero :
    let front := renderSetup 0x1E (entry 0 9 1 0x00 12) []
    let behind := renderSetup 0x1E (entry 0 9 1 0x20 12) []
    row10 front (3, 0) [11, 12, 13, 14] = [0x18, 0x21, 0x21, 0x18] ∧
      row10 behind (3, 0) [11, 12, 13, 14] = [0x18, 0x18, 0x18, 0x18] ∧
      winningSprite Config.default behind (selectedSprites behind 10) 12 10 = some 0 ∧
      hitsSprite0 behind (some 0) (3, 0) 12 = true ∧ hitsSprite0 behind (some 0) (3, 0) 255 = false := by decide

/-- Eight sprites on row 10. -/
def eightSprites : List (Nat × Byte) :=
  entry 0 9 2 0 0 ++ entry 1 9 2 0 8 ++ entry 2 9 2 0 16 ++ entry 3 9 2 0 24 ++ entry 4 9 2 0 32 ++ entry 5 9 2 0 40 ++
    entry 6 9 2 0 48 ++ entry 7 9 2 0 56

set_option maxRecDepth 20000 in
/-- G7, G8: nine sprites on a row set SPR_OVF and the ninth is not drawn; eight do not -/
theorem test_sprite_overflow :
    let nine := renderSetup 0x1E (eightSprites ++ entry 8 9 2 0 64) []
    selectedSprites nine 10 = [0, 1, 2, 3, 4, 5, 6, 7] ∧ row10 nine (0, 0) [63, 64] = [0x2C, 0x0F] ∧
      spriteOverflow nine 10 = true ∧ spriteOverflow nine 9 = false ∧
      spriteOverflow (renderSetup 0x1E eightSprites []) 10 = false := by decide

set_option maxRecDepth 20000 in
/-- G15, G16: horizontal and vertical flip, palette 5 -/
theorem test_sprite_flips :
    let p := renderSetup 0x1E (entry 0 9 1 0x41 20) []
    let q := renderSetup 0x1E (entry 0 9 1 0x81 20) []
    row10 p (0, 0) [20, 25, 26, 27] = [0x0F, 0x0F, 0x1A, 0x1A] ∧
      row10 { q with chr := q.chr.write 0x17 0x01 } (0, 0) [20, 26, 27] = [0x0F, 0x0F, 0x1A] := by decide

set_option maxRecDepth 20000 in
/-- G17, G18: the lowest index wins an overlap; the left column clips sprites -/
theorem test_sprite_order_and_clip :
    let p := renderSetup 0x1E (entry 1 9 2 0 40 ++ entry 2 9 2 3 44) []
    let q := renderSetup 0x1A (entry 1 9 2 0 4) []
    row10 p (0, 0) [40, 47, 48, 51, 52] = [0x2C, 0x2C, 0x30, 0x30, 0x0F] ∧
      row10 q (0, 0) [4, 7, 8, 11, 12] = [0x0F, 0x0F, 0x2C, 0x2C, 0x0F] := by decide

/-- G19, G20, G21, G22: lines 0, 261 and 20, a blank line, and the fatal 8x16 line -/
theorem test_scanline_events :
    renderScanline Config.default 0 { State.reset.ppu with spr0Hit := true, sprOvf := true, vblank := true } =
      .done { State.reset.ppu with vblank := true } false ∧
    renderScanline Config.default 261 { State.reset.ppu with ctrl := 0x80 } =
      .done { State.reset.ppu with ctrl := 0x80, vblank := true } true ∧
    (afterLine 20 { State.reset.ppu with vblank := true }).vblank = false ∧
    pixels (afterLine 21 (renderSetup 0x00 [] [])) 0 [0, 255] = [some 0x0F, some 0x0F] ∧
    renderScanline Config.default 21 { State.reset.ppu with mask := 0x08, ctrl := 0x20 } = .fatal := by decide

/-- G23, G24, G25: the vertical increment at VT 29 and 31, and the horizontal reload -/
theorem test_scroll_of_a_line :
    incVertical { Scroll.zero with fv := 7, vt := 29 } = { Scroll.zero with v := 1 } ∧
    incVertical { Scroll.zero with fv := 7, vt := 31 } = Scroll.zero ∧
    reloadHorizontal { Scroll.zero with h := 1, ht := 5 } { Scroll.zero with fv := 1 } =
      { Scroll.zero with fv := 1, h := 1, ht := 5 } := by decide

/-! ## The scheduler, the NMI, fatal errors, reset (I) -/

/-- I1: the step that reaches 114 cycles renders line 0 -/
theorem test_line_is_charged :
    let t := after ((at8000 [0x4C, 0x00, 0x80]).setSched { line := 0, acc := 111 })
    t.sched.line = 1 ∧ t.sched.acc = 1 ∧ t.pc = 0x8000 := by decide

/-- The state of I2: the end of line 261 with the NMI enabled. -/
def beforeVblank : State :=
  let s := State.with (at8000 [0x4C, 0x00, 0x80]) 0xFFFB 0x90
  (s.setSched { line := 261, acc := 111 }).setPpu (ctrlWrite 0x80 s.ppu)

/-- I2: the vblank NMI -/
theorem test_nmi :
    let t := after beforeVblank
    t.ppu.vblank = true ∧ t.sched.line = 0 ∧ t.sched.acc = 8 ∧ t.sp = 0xFC ∧ t.p = 0x24 ∧ t.pc = 0x9000 ∧
      [0x01FF, 0x01FE, 0x01FD].map (peek t) = [some 0x80, some 0x00, some 0x20] := by decide

/-- I3: with I = 1 the NMI is dropped -/
theorem test_nmi_is_gated :
    let t := after (beforeVblank.setP 0x24)
    t.pc = 0x8000 ∧ t.sp = 0xFF ∧ t.sched.acc = 1 ∧ t.ppu.vblank = true := by decide

/-- I5: an undefined opcode halts with the PC past it, and the next step is a fault of the model -/
theorem test_undefined_opcode :
    let t := after (State.with ((at8000 []).setPc 0x8004) 0x8004 0x02)
    t.run = .halted (.invalidOpcode 0x02 0x8004) ∧ t.pc = 0x8005 ∧
      step t = .fault (.halted (.invalidOpcode 0x02 0x8004)) := ⟨by decide, by decide, rfl⟩

/-- I6: a read without a handler halts, A unchanged -/
theorem test_unrecognized_access :
    let t := after ((at8000 [0xAD, 0x00, 0x20]).setA 0x77)
    t.run = .halted (.unrecognizedIoAccess 0x2000 .read (some 0xAD) 0x8000) ∧ t.a = 0x77 := by decide

/-- The state of I7 before the host reset. -/
def beforeReset : State :=
  let s := (((State.with (State.with State.reset 0xFFFD 0x80) 0x0010 0x44).setA 0x33).setPc 0x8003).setSp 0x12
  (s.setPpu (ctrlWrite 0x80 s.ppu)).setSched { line := 0, acc := 7 }

/-- I7, I8: a host reset keeps the PPU, RAM and the scheduler; a Halted machine refuses it -/
theorem test_host_reset :
    hostReset beforeReset = .next (((beforeReset.setA 0x00).setPc 0x8000).setSp 0xFF) ∧
      hostReset (beforeReset.halt (.invalidOpcode 0x02 0x8004)) = .refused .resetWhenHalted := ⟨rfl, rfl⟩

/-- I9: the reset vector is read at power-on -/
theorem test_power_on_reads_the_vector :
    (State.powerOn Config.default { PowerOnImage.blank with prg := [(0x3FFD, 0x80)] }).pc = 0x8000 := by decide

/-- Why a file gives no configuration. -/
def loadError (file : List Byte) : Option LoadError :=
  match loadCartridge file with
  | .ok _ => none
  | .error e => some e

/-- 60_exceptions.md R401: files that give no configuration (by hand from R118) -/
theorem test_cartridge_refusals :
    loadError [0x4E, 0x45, 0x53] = some .invalidRom ∧
    loadError ([0x4E, 0x45, 0x53, 0x1A] ++ List.replicate 12 0x00) = some .emptyProgramRom ∧
    loadError ([0x4E, 0x45, 0x53, 0x1A, 0x01] ++ List.replicate 11 0x00) = some .sizeMismatch := by decide

theorem test_core : Sys2Proof.core.reset = State.reset := rfl

theorem reset_inv : State.reset.inv = true := by decide

/-! ## Witnesses: concrete states and operands that meet the hypotheses of each obligation that has any -/

theorem witness_DecodeInvertsEncode : Instr.wf (.adcAbsx 0xFFFF) = true ∧ Instr.wf .brk = true := by decide

theorem witness_EncodeInvertsDecode : decode [0xA9, 0x05, 0x07] = .ok (.ldaImm 0x05, [0x07]) ∧
    decode [0x6C, 0xFF, 0xFF] = .ok (.jmpInd 0xFFFF, []) := ⟨rfl, rfl⟩

/-- A machine that fetches at OAMDATA (0x2004): the opcode is the sprite-RAM byte at the cursor, and 0x2005 is fatal. -/
def atOamData (v : Byte) : State :=
  let s := State.reset.setPc 0x2004
  s.setPpu { s.ppu with oam := s.ppu.oam.write 0 v }

/-- The first and the last undefined opcode at the PC, in PRG, in RAM and at a PPU register. -/
theorem witness_UndefinedOpcodeHalts :
    (at8000 [0x02]).run = .running ∧ 0x02 ∈ undefinedOpcodes ∧
      busRead (at8000 [0x02]).pc (at8000 [0x02]) = .ok 0x02 (at8000 [0x02]) ∧
    (State.with State.reset 0x0000 0xFF).run = .running ∧ 0xFF ∈ undefinedOpcodes ∧
      busRead (State.with State.reset 0x0000 0xFF).pc (State.with State.reset 0x0000 0xFF) =
        .ok 0xFF (State.with State.reset 0x0000 0xFF) ∧
    (atOamData 0x02).run = .running ∧
      busRead (atOamData 0x02).pc (atOamData 0x02) = .ok 0x02 (afterRead (atOamData 0x02) 0x2004) := by decide

/-- Bytes in PRG; one byte fetched at a PPU register, with its side effect; a fatal opcode fetch; and a fatal operand
fetch after a completed opcode fetch. -/
theorem witness_StepRunsDecodedInstruction :
    ((at8000 [0xBD, 0xF0, 0x12]).run = .running ∧ Instr.wf (.ldaAbsx 0x12F0) = true ∧
      holdsBytes (at8000 [0xBD, 0xF0, 0x12]) (at8000 [0xBD, 0xF0, 0x12]).pc [0xBD, 0xF0, 0x12] = true ∧
      fetchBytes (at8000 [0xBD, 0xF0, 0x12]).pc 3 (at8000 [0xBD, 0xF0, 0x12]) =
        .ok [0xBD, 0xF0, 0x12] (at8000 [0xBD, 0xF0, 0x12]) ∧
      decode [0xBD, 0xF0, 0x12] = .ok (.ldaAbsx 0x12F0, [])) ∧
    (fetchBytes (atOamData 0xEA).pc 1 (atOamData 0xEA) = .ok [0xEA] (afterRead (atOamData 0xEA) 0x2004) ∧
      decode [0xEA] = .ok (.nop, [])) ∧
    busRead 0x2000 (State.reset.setPc 0x2000) = .fatal { addr := 0x2000, dir := .read } (State.reset.setPc 0x2000) ∧
    (busRead (atOamData 0xA9).pc (atOamData 0xA9) = .ok 0xA9 (afterRead (atOamData 0xA9) 0x2004) ∧
      opcodeOf (.ldaImm 0x00) = 0xA9 ∧
      fetchBytes 0x2005 1 (afterRead (atOamData 0xA9) 0x2004) =
        .fatal { addr := 0x2005, dir := .read } (afterRead (atOamData 0xA9) 0x2004)) :=
  ⟨⟨rfl, rfl, by decide, by decide, rfl⟩, ⟨by decide, rfl⟩, by decide, by decide⟩

/-- A stopped machine. -/
def stopped : State := State.reset.halt (.invalidOpcode 0x02 0x8000)

theorem witness_HaltedMachineTakesNoStep : stopped.run = .halted (.invalidOpcode 0x02 0x8000) := by decide

theorem witness_EveryInstructionAnswersNext : State.reset.run = .running := by decide

theorem witness_SetNZWritesZeroAndSign : Flag.c ≠ .z ∧ Flag.c ≠ .n := by decide

/-- A state whose indirect pointers reach RAM (0x40) and the PPU port (0x50, 0x60), with X = 0x10 and Y = 0x20. -/
def pointers : State :=
  let s := State.with (State.with State.reset 0x0041 0x03) 0x0051 0x20
  ((State.with (State.with s 0x0060 0xE0) 0x0061 0x1F).setX 0x10).setY 0x20

/-- The operand modes with an operand that can be read and written: page zero at its end, the last RAM address and the
wrap to address 0 among them. -/
def goodModes : List MemMode :=
  [.zp 0xFF, .zpx 0xFF, .zpy 0xFF, .abs 0x1FFF, .absx 0xFFFF, .absy 0xFFFF, .indx 0x30, .indy 0x40]

/-- Reading forms: every mode can be read, and the modes that reach the PPU port have a fatal read. -/
theorem witness_reading_forms : (goodModes.all fun m => completes (busRead (m.ea pointers) pointers)) = true ∧
    (([MemMode.abs 0x2000, .absx 0x1FF0, .absy 0x1FE0, .indx 0x40, .indy 0x60].map fun m => m.ea pointers) =
      [0x2000, 0x2000, 0x2000, 0x2000, 0x2000]) ∧ completes (busRead 0x2000 pointers) = false := by decide

theorem witness_Loads : completes (busRead ((MemMode.absx 0xFFFF).ea pointers) pointers) = true ∧
    completes (busRead ((MemMode.absy 0x1FE0).ea pointers) pointers) = false := by decide

theorem witness_AddAndSubtract : completes (busRead ((MemMode.zpx 0xFF).ea pointers) pointers) = true ∧
    completes (busRead ((MemMode.absx 0x1FF0).ea pointers) pointers) = false := by decide

theorem witness_LogicInstructions : completes (busRead ((MemMode.indx 0x30).ea pointers) pointers) = true ∧
    completes (busRead ((MemMode.indx 0x40).ea pointers) pointers) = false := by decide

theorem witness_BitAndCompare : completes (busRead ((MemMode.abs 0x1FFF).ea pointers) pointers) = true ∧
    completes (busRead ((MemMode.abs 0x2000).ea pointers) pointers) = false := by decide

/-- Storing forms: every mode can be written; register 2 of the PPU port, and a DMA from page 0x20, are fatal. -/
theorem witness_Stores : (goodModes.all fun m => completes (busWrite (m.ea pointers) 0xFF pointers)) = true ∧
    completes (busWrite ((MemMode.abs 0x2002).ea pointers) 0x00 pointers) = false ∧
    completes (busWrite ((MemMode.absx 0x4004).ea pointers) 0x20 pointers) = false := by decide

/-- Read-modify-write forms: both accesses complete; the read is fatal; the read completes and the write is fatal. -/
theorem witness_read_modify_write :
    (([MemMode.zp 0xFF, .zpx 0xFF, .abs 0x1FFF, .absx 0xFFFF].all fun m =>
      completes (busRead (m.ea pointers) pointers) && completes (busWrite (m.ea pointers) 0x01 pointers)) = true) ∧
    completes (busRead 0x2000 pointers) = false ∧
    completes (busRead 0x2002 pointers) = true ∧
      completes (busWrite 0x2002 0x01 (afterRead pointers 0x2002)) = false := by decide

theorem witness_MemoryIncrements : busRead 0x1FFF pointers = .ok 0x00 pointers ∧
    busWrite 0x1FFF 0x01 (pointers.setP pointers.p) = .ok () (afterWrite pointers 0x1FFF 0x01) := ⟨rfl, rfl⟩

theorem witness_ShiftsAndRotates : busRead 0x0051 pointers = .ok 0x20 pointers ∧
    busWrite 0x0051 0x40 (pointers.setP (putFlag .c false pointers.p)) =
      .ok () (afterWrite (pointers.setP (putFlag .c false pointers.p)) 0x0051 0x40) := ⟨rfl, rfl⟩

/-- A pointer at the end of a page; one whose low byte, and one whose high byte, has no handler. -/
theorem witness_JumpsAndSubroutines :
    completes (busRead 0x02FF pointers) = true ∧ completes (busRead 0x0200 pointers) = true ∧
    completes (busRead 0x2000 pointers) = false ∧
    completes (busRead 0x2002 pointers) = true ∧
      completes (busRead 0x2003 (afterRead pointers 0x2002)) = false := by decide

/-- The state an instruction ends in; the state itself if there is none. -/
def ran (i : Instr) (s : State) : State :=
  match exec i s with
  | .next t => t
  | .fault _ => s
  | .refused _ => s

theorem exec_ran {i : Instr} {s : State} (h : isNext (exec i s) = true) : exec i s = .next (ran i s) := by
  unfold ran
  cases k : exec i s with
  | next t => rfl
  | fault r => rw [k] at h; cases h
  | refused r => rw [k] at h; cases h

/-- A crossing indexed read that completes on a Running machine. -/
theorem witness_CycleCosts : pointers.run = .running ∧
    exec (.ldaIndy 0x40) pointers = .next (ran (.ldaIndy 0x40) pointers) ∧
    (ran (.ldaIndy 0x40) pointers).run = .running := ⟨rfl, exec_ran rfl, rfl⟩

theorem witness_RegisterFrame : isNext (exec (.staZp 0xFF) pointers) = true ∧ writesA (.staZp 0xFF) = false ∧
    writesX (.staZp 0xFF) = false ∧ writesY (.staZp 0xFF) = false ∧ writesSp (.staZp 0xFF) = false ∧
    writesPc (.staZp 0xFF) = false := by decide

theorem witness_ReadsLeaveMemory : isNext (exec (.ldaAbs 0x2002) pointers) = true ∧
    pushedBytes (.ldaAbs 0x2002) = 0 ∧ shapeOf (.ldaAbs 0x2002) = .read (.abs 0x2002) := by decide

/-- The store wraps to address 0x000F, whose neighbours and mirror-distant bytes are other cells. -/
theorem witness_StoresChangeOnlyTheirByte : isNext (exec (.staAbsx 0xFFFF) pointers) = true ∧
    shapeOf (.staAbsx 0xFFFF) = .store (.absx 0xFFFF) ∧ shapeOf (.incZp 0xFF) = .modify (.zp 0xFF) ∧
    sameCell 0x0010 ((MemMode.absx 0xFFFF).ea pointers) = false ∧
    sameCell 0x0000 ((MemMode.absx 0xFFFF).ea pointers) = false ∧
    sameCell 0x080F ((MemMode.absx 0xFFFF).ea pointers) = true ∧
    regionOf ((MemMode.absx 0xFFFF).ea pointers) = .ram := by decide

/-- Three bytes pushed from S = 0x01, so that the stack wraps; the byte below is another cell. -/
theorem witness_PushesChangeOnlyTheStack : isNext (exec .brk (pointers.setSp 0x01)) = true ∧ 0 < pushedBytes .brk ∧
    [0, 1, 2].map (stackAddress (pointers.setSp 0x01)) = [0x0101, 0x0100, 0x01FF] ∧
    ([0, 1, 2].all fun k => sameCell 0x01FE (stackAddress (pointers.setSp 0x01) k) == false) = true := by decide

/-- The first and the last address of every range of the bus maps. -/
theorem witness_bus_ranges :
    ([0x0000, 0x1FFF].map regionOf = [.ram, .ram]) ∧ ([0x2000, 0x3FFF].map regionOf = [.ppu, .ppu]) ∧
    ([0x4000, 0x4013, 0x4015, 0x4017, 0x401F].map regionOf = [.io, .io, .io, .io, .io]) ∧
    regionOf 0x4014 = .dma ∧ regionOf 0x4016 = .pad ∧
    ([0x4020, 0x5FFF].map regionOf = [.expansion, .expansion]) ∧
    ([0x6000, 0x7FFF].map regionOf = [.sram, .sram]) ∧ ([0x8000, 0xFFFF].map regionOf = [.prg, .prg]) := by decide

theorem witness_BusReadMap : (0x1FFF#16).toNat ≤ 0x1FFF ∧
    (0x2000#16).toNat % 8 ≠ 2 ∧ (0x2002#16).toNat % 8 = 2 ∧ (0x3FFC#16).toNat % 8 = 4 ∧ (0x3FFF#16).toNat % 8 = 7 ∧
    (0x3FFF#16).toNat ≤ 0x3FFF ∧ (0x4000#16).toNat ≤ 0x5FFF ∧ (0x5FFF#16) ≠ 0x4016 ∧ 0x6000 ≤ (0x6000#16).toNat ∧
    (0x7FFF#16).toNat ≤ 0x7FFF ∧ 0x8000 ≤ (0x8000#16).toNat := by decide

theorem witness_BusWriteMap : [0x2000, 0x3FF9, 0x200A, 0x3FFB, 0x2005, 0x3FFE].map (fun a : Word => a.toNat % 8) =
      [0, 1, 2, 3, 5, 6] ∧
    (0x4013#16) ≠ 0x4014 ∧ (0x4013#16) ≠ 0x4016 ∧ 0x4000 ≤ (0x4013#16).toNat ∧ (0x5FFF#16).toNat ≤ 0x5FFF := by decide

/-- RAM at a mirror and its base; SRAM at both ends; an SRAM and a RAM address that agree modulo 0x800. -/
theorem witness_StoredBytesAreReadBack :
    busWrite 0x1FFF 0xA5 State.reset = .ok () (afterWrite State.reset 0x1FFF 0xA5) ∧
    busWrite 0x7FFF 0xA5 State.reset = .ok () (afterWrite State.reset 0x7FFF 0xA5) ∧
    busWrite 0x6000 0xA5 State.reset = .ok () (afterWrite State.reset 0x6000 0xA5) ∧
    (0x1FFF#16).toNat % 0x800 = (0x07FF#16).toNat % 0x800 ∧
    (0x7FFF#16).toNat % 0x800 = (0x1FFF#16).toNat % 0x800 := ⟨rfl, rfl, rfl, rfl, rfl⟩

/-- The pages at the ends of the three clauses. -/
theorem witness_SpriteDma : (0x1F#8).toNat < 0x20 ∧ 0x40 < (0x41#8).toNat ∧ 0x40 < (0xFF#8).toNat ∧
    0x20 ≤ (0x20#8).toNat ∧ (0x3F#8).toNat ≤ 0x3F ∧ ¬((0x40#8).toNat ≤ 0x3F) ∧ ¬(0x40 < (0x40#8).toNat) := by decide

theorem witness_OamDataAndPpuDataWrites : 0x2000 ≤ (0x2004#16).toNat ∧ (0x2004#16).toNat % 8 = 4 ∧
    (0x3FFC#16).toNat % 8 = 4 ∧ (0x2007#16).toNat % 8 = 7 ∧ (0x3FFF#16).toNat % 8 = 7 ∧
    (0x3FFF#16).toNat ≤ 0x3FFF := by decide

/-- The last buffered and the first immediate address. -/
theorem witness_PpuPort : (vramAddress (addressed 0x3E 0xFF State.reset.ppu).cnt).toNat = 0x3EFF ∧
    (vramAddress (addressed 0x3F 0x00 State.reset.ppu).cnt).toNat = 0x3F00 := by decide

theorem witness_ScrollAndAddressPairs : State.reset.ppu.w = false ∧ (scrollWrite 0x08 State.reset.ppu).w = true ∧
    (addrWrite 0x21 State.reset.ppu).w = true := by decide

theorem witness_PpuSpaceMirrors : (0x1FFF#16).toNat ≤ 0x1FFF ∧ 0x2000 ≤ (0x2000#16).toNat ∧ (0x3EFF#16).toNat ≤ 0x3EFF ∧
    0x3000 ≤ (0x3000#16).toNat ∧ 0x3F00 ≤ (0x3F00#16).toNat ∧ (0x3FFF#16).toNat ≤ 0x3FFF ∧
    Config.default.mirroring = .vertical ∧ { Config.default with mirroring := .horizontal }.mirroring = .horizontal := by
  decide

/-- Rendering enabled by each bit alone and neither; the line with an NMI. -/
theorem witness_ScanlineEvents : (maskWrite 0x08 State.reset.ppu).mask.getLsbD 3 = true ∧
    (maskWrite 0x10 State.reset.ppu).mask.getLsbD 4 = true ∧ State.reset.ppu.mask.getLsbD 3 = false ∧
    State.reset.ppu.mask.getLsbD 4 = false ∧
    renderScanline Config.default 261 (ctrlWrite 0x80 State.reset.ppu) =
      .done { ctrlWrite 0x80 State.reset.ppu with vblank := true } true := by decide

/-- Rendering off, on, and on with 8x16 sprites; every kind of vertical step. -/
theorem witness_VisibleLines : State.reset.ppu.mask.getLsbD 3 = false ∧
    State.reset.ppu.mask.getLsbD 4 = false ∧
    (maskWrite 0x08 (ctrlWrite 0x20 State.reset.ppu)).mask.getLsbD 3 = true ∧
    (maskWrite 0x08 (ctrlWrite 0x20 State.reset.ppu)).ctrl.getLsbD 5 = true ∧
    (maskWrite 0x10 State.reset.ppu).ctrl.getLsbD 5 = false ∧ State.reset.ppu.cnt.fv ≠ 7 ∧
    { Scroll.zero with fv := 7, vt := 29 }.fv = 7 ∧ { Scroll.zero with fv := 7, vt := 31 }.vt ≠ 29 := by decide

set_option maxRecDepth 20000 in
/-- The row's clauses: the first and the last column have a background pixel (vector G10). -/
theorem witness_VisibleLines_columns :
    let p := { renderSetup 0x0A [] [(0, 1)] with regFH := 1 }
    backgroundPixel Config.default p 0 = (1, 0) ∧ backgroundPixel Config.default p 1 = (0, 0) ∧
      (backgroundLine Config.default p)[0]? = some (1, 0) := by decide

/-- The first and the last row a sprite covers, and a ninth sprite left out. -/
theorem witness_SpriteSelection :
    let p := renderSetup 0x1E (eightSprites ++ entry 8 9 2 0 64) []
    0 ∈ selectedSprites p 10 ∧ 0 ∈ selectedSprites p 17 ∧ 0 ∉ selectedSprites p 18 ∧ 8 ∉ selectedSprites p 10 ∧
      (p.oam.read (4 * 8)).toNat + 1 ≤ 10 ∧ 10 ≤ (p.oam.read (4 * 8)).toNat + 8 := by decide

/-- Both sides of the hit: a state that has it and one that has not. -/
theorem witness_SpriteZeroHit :
    (renderSetup 0x1E (entry 0 9 1 0x00 12) []).mask.getLsbD 3 = true ∧
    (renderSetup 0x1E (entry 0 9 1 0x00 12) []).mask.getLsbD 4 = true ∧
    ((renderSetup 0x1E (entry 0 9 1 0x00 12) []).oam.read 0).toNat + 1 ≤ 10 ∧
    spritePixel Config.default (renderSetup 0x1E (entry 0 9 1 0x00 12) []) 0 12 10 ≠ 0 := by decide

/-- A second sprite that is the first with an opaque pixel, at the first column with the left column shown; and a column
with no opaque sprite. -/
theorem witness_PixelPriority :
    let p := renderSetup 0x1E (entry 0 9 0 0 0 ++ entry 1 9 2 0 0) []
    p.mask.getLsbD 4 = true ∧ p.mask.getLsbD 2 = true ∧ selectedSprites p 10 = [0] ++ 1 :: [] ∧
      spritePixel Config.default p 0 0 10 = 0 ∧ spritePixel Config.default p 1 0 10 ≠ 0 ∧
      spritePixel Config.default p 0 8 10 = 0 ∧ spritePixel Config.default p 1 8 10 = 0 := by decide

/-- Sprites hidden everywhere, and in the left column alone; and G15, G16 of the sprite's pixel at both its ends. -/
theorem witness_PixelPriority_hidden :
    (renderSetup 0x0A [] []).mask.getLsbD 4 = false ∧ (renderSetup 0x1A [] []).mask.getLsbD 4 = true ∧
      (renderSetup 0x1A [] []).mask.getLsbD 2 = false ∧
    let p := renderSetup 0x1E (entry 0 9 1 0x41 20) []
    (p.oam.read 0).toNat + 1 ≤ 10 ∧ 17 ≤ (p.oam.read 0).toNat + 8 ∧
      [19, 20, 25, 26, 27, 28].map (fun x => spriteValue Config.default p 0 x 10) = [0, 0, 0, 1, 1, 0] := by decide

/-- Both values of I; an address outside the three stack bytes, the one next to them. -/
theorem witness_NmiEntry : getFlag .i State.reset.p = false ∧ getFlag .i (State.reset.setP 0x24).p = true ∧
    ([0, 1, 2].all fun k => sameCell 0x01FC (stackAddress State.reset k) == false) = true ∧
    sameCell 0x01FD (stackAddress State.reset 2) = true := by decide

/-- Each clause at its bounds: 112 and 113 cycles, 225 and 218 with an NMI, a fatal line. -/
theorem witness_SchedulerChargesLines :
    stopped.run = .halted (.invalidOpcode 0x02 0x8000) ∧
    (State.reset.setCyc 112).sched.acc + (State.reset.setCyc 112).cyc < (State.reset.setCyc 112).cfg.cyclesPerScanline ∧
    113 ≤ (State.reset.setCyc 113).sched.acc + (State.reset.setCyc 113).cyc ∧
    (State.reset.setCyc 225).sched.acc + (State.reset.setCyc 225).cyc < 2 * 113 ∧
    renderScanline Config.default 0 State.reset.ppu = .done State.reset.ppu false ∧
    (beforeVblank.setCyc 107).sched.acc + (beforeVblank.setCyc 107).cyc + 7 < 2 * 113 ∧
    renderScanline Config.default 261 beforeVblank.ppu = .done { beforeVblank.ppu with vblank := true } true ∧
    renderScanline Config.default 260 (maskWrite 0x08 (ctrlWrite 0x20 State.reset.ppu)) = .fatal := by decide

/-- The loop's clauses: five scanlines of cycles left (a sprite DMA), and none. -/
theorem witness_SchedulerChargesLines_turns :
    let s := State.reset.setSched { line := 0, acc := 565 }
    s.cfg.wf = true ∧ s.run = .running ∧ s.cfg.cyclesPerScanline ≤ s.sched.acc ∧
      State.reset.sched.acc < State.reset.cfg.cyclesPerScanline ∧ stopped.run ≠ .running := by decide

theorem witness_SchedulerLoopEnds : State.reset.cfg.wf = true ∧ lineFuel State.reset ≤ 8 ∧
    (renderLines 8 State.reset).run = .running := by decide

theorem witness_ControllerSequence : (0x01#8).getLsbD 0 = true ∧ (0xFE#8).getLsbD 0 = false := by decide

theorem witness_PowerOnAndReset : State.reset = State.powerOn Config.default PowerOnImage.blank ∧
    State.reset.run = .running ∧ stopped.run = .halted (.invalidOpcode 0x02 0x8000) := ⟨rfl, rfl, rfl⟩

/-- A handler that changed A and stored to RAM (program T4's INC $00) between the entry and the return. -/
def handled (s : State) : State := State.with (s.setA 0x55) 0x0000 0x01

theorem witness_CallsAndBreaksReturn :
    exec (.jsrAbs 0x9000) State.reset = .next (ran (.jsrAbs 0x9000) State.reset) ∧
    exec .rts (handled (ran (.jsrAbs 0x9000) State.reset)) =
      .next (ran .rts (handled (ran (.jsrAbs 0x9000) State.reset))) ∧
    exec .brk State.reset = .next (ran .brk State.reset) ∧
    exec .rti (handled (ran .brk State.reset)) = .next (ran .rti (handled (ran .brk State.reset))) ∧
    getFlag .i State.reset.p = false ∧
    exec .rti (handled (nmiRequest State.reset).1) = .next (ran .rti (handled (nmiRequest State.reset).1)) :=
  ⟨exec_ran rfl, exec_ran rfl, exec_ran rfl, exec_ran rfl, rfl, exec_ran rfl⟩

/-- The pushed bytes and S are as the entries left them, and the RAM is not. -/
theorem witness_CallsAndBreaksReturn_stack :
    let t := ran .brk State.reset
    let n := (nmiRequest State.reset).1
    let j := ran (.jsrAbs 0x9000) State.reset
    ([0, 1, 2].all fun k => peek (handled t) (stackAddress State.reset k) == peek t (stackAddress State.reset k)) = true ∧
      ([0, 1, 2].all fun k => peek (handled n) (stackAddress State.reset k) == peek n (stackAddress State.reset k)) = true ∧
      ([0, 1].all fun k => peek (handled j) (stackAddress State.reset k) == peek j (stackAddress State.reset k)) = true ∧
      (handled t).sp = t.sp ∧ (handled n).sp = n.sp ∧ (handled j).sp = j.sp ∧ (handled t).ram ≠ t.ram := by decide

/-- A state that meets the invariant and steps: the vblank NMI at the end of a frame. -/
theorem witness_StepKeepsInvariant : beforeVblank.inv = true ∧ isNext (step beforeVblank) = true := by decide

theorem witness_ResetMeetsInvariant : Config.default.wf = true ∧
    memoryOk (State.powerOn Config.default { PowerOnImage.blank with prg := [(0x3FFD, 0x80)] }) = true := by decide

theorem witness_RomAndConfigurationNeverChange : isNext (step beforeVblank) = true ∧
    isNext (step (beforeVblank.setCfg { Config.default with chrRom := true })) = true ∧
    (beforeVblank.setCfg { Config.default with chrRom := true }).cfg.chrRom = true := by decide

/-- Two states that differ in the crossing penalty, one instruction whose cost differs, one that halts. -/
theorem witness_TimingDoesNotChangeResults :
    withoutTiming pointers =
      withoutTiming (pointers.setCfg { Config.default with pageCrossPenalty := false, cyclesPerScanline := 5 }) ∧
    isNext (exec (.ldaAbsx 0x12F0) pointers) = true ∧
    isNext (exec (.ldaAbsx 0x12F0)
      (pointers.setCfg { Config.default with pageCrossPenalty := false, cyclesPerScanline := 5 })) = true ∧
    (ran (.ldaAbs 0x2000) pointers).run = .halted (.unrecognizedIoAccess 0x2000 .read (some 0xAD) 0xFFFD) := by decide

end Sys2Proof.Tests
end

section
/-! The frame of a whole step: the cartridge's program, the configuration and CHR-ROM stay as they were
(00_scope.md R9; 10_state.md R44, R47, R55; 20_memory.md R78, R91). An instruction keeps them by the law of its shape,
the scanlines and the NMI by the laws of the scheduler. -/

namespace Sys2Proof.Machine

/-! ## What the operation of an instruction keeps -/

theorem statusOk_putCarry (b : Bool) {p : Byte} (h : statusOk p = true) : statusOk (putFlag .c b p) = true :=
  statusOk_putFlag (by decide) (by decide) b h

/-- Setting N and Z last keeps what was kept before. -/
theorem InstrKeeps.setNZ {s t : State} (h : InstrKeeps s t) (v : Byte) : InstrKeeps s (t.setP (setNZ v t.p)) :=
  h.trans (InstrKeeps.setP t (statusOk_setNZ v))

theorem InstrKeeps.putFlag (s : State) {f : Flag} (hb : f ≠ .b) (hu : f ≠ .u) (b : Bool) :
    InstrKeeps s (s.setP (putFlag f b s.p)) :=
  InstrKeeps.setP s (statusOk_putFlag hb hu b)

theorem ldaOp_keeps (v : Byte) (s : State) : InstrKeeps s (ldaOp v s) := (InstrKeeps.setA s v).setNZ v

theorem ldxOp_keeps (v : Byte) (s : State) : InstrKeeps s (ldxOp v s) := (InstrKeeps.setX s v).setNZ v

theorem ldyOp_keeps (v : Byte) (s : State) : InstrKeeps s (ldyOp v s) := (InstrKeeps.setY s v).setNZ v

theorem adcOp_keeps (m : Byte) (s : State) : InstrKeeps s (adcOp m s) :=
  (InstrKeeps.setA s _).trans (InstrKeeps.setP _ (statusOk_adcFlags s.a m))

theorem sbcOp_keeps (m : Byte) (s : State) : InstrKeeps s (sbcOp m s) :=
  (InstrKeeps.setA s _).trans (InstrKeeps.setP _ (statusOk_sbcFlags s.a m))

theorem andOp_keeps (m : Byte) (s : State) : InstrKeeps s (andOp m s) := (InstrKeeps.setA s _).setNZ _

theorem oraOp_keeps (m : Byte) (s : State) : InstrKeeps s (oraOp m s) := (InstrKeeps.setA s _).setNZ _

theorem eorOp_keeps (m : Byte) (s : State) : InstrKeeps s (eorOp m s) := (InstrKeeps.setA s _).setNZ _

theorem bitOp_keeps (m : Byte) (s : State) : InstrKeeps s (bitOp m s) := InstrKeeps.setP s (statusOk_bitFlags s.a m)

theorem cmpOp_keeps (m : Byte) (s : State) : InstrKeeps s (cmpOp m s) :=
  InstrKeeps.setP s (statusOk_compareFlags s.a m)

theorem cpxOp_keeps (m : Byte) (s : State) : InstrKeeps s (cpxOp m s) :=
  InstrKeeps.setP s (statusOk_compareFlags s.x m)

theorem cpyOp_keeps (m : Byte) (s : State) : InstrKeeps s (cpyOp m s) :=
  InstrKeeps.setP s (statusOk_compareFlags s.y m)

/-! ## Every instruction, and every step -/

/-- Every instruction answers a next state, Running or Halted, that keeps what an instruction keeps: its operation does,
and its shape adds only bus accesses, the PC and the cost. -/
theorem exec_answers (i : Instr) (s : State) : Answers s (exec i s) := by
  cases i with
  | ldaImm _ => exact execImmediate_answers _ ldaOp_keeps
  | ldaZp _ | ldaZpx _ | ldaAbs _ | ldaAbsx _ | ldaAbsy _ | ldaIndx _ | ldaIndy _ =>
    exact execRead_answers _ _ s ldaOp_keeps
  | ldxImm _ => exact execImmediate_answers _ ldxOp_keeps
  | ldxZp _ | ldxZpy _ | ldxAbs _ | ldxAbsy _ => exact execRead_answers _ _ s ldxOp_keeps
  | ldyImm _ => exact execImmediate_answers _ ldyOp_keeps
  | ldyZp _ | ldyZpx _ | ldyAbs _ | ldyAbsx _ => exact execRead_answers _ _ s ldyOp_keeps
  | staZp _ | staZpx _ | staAbs _ | staAbsx _ | staAbsy _ | staIndx _ | staIndy _ | stxZp _ | stxZpy _ | stxAbs _
  | styZp _ | styZpx _ | styAbs _ => exact execStore_answers _ _ _ s
  | tax | tsx | inx | dex => exact execImplied_answers _ ((InstrKeeps.setX s _).setNZ _)
  | tay | iny | dey => exact execImplied_answers _ ((InstrKeeps.setY s _).setNZ _)
  | txa | tya => exact execImplied_answers _ ((InstrKeeps.setA s _).setNZ _)
  | txs => exact execImplied_answers _ (InstrKeeps.setSp s _)
  | pha | php => exact execImplied_answers _ (push_keeps _ s)
  | pla => exact execImplied_answers _ (((pop_keeps s).trans (InstrKeeps.setA _ _)).setNZ _)
  | plp => exact execImplied_answers _ ((pop_keeps s).trans (InstrKeeps.setP _ fun _ => statusOk_statusFromStack _))
  | adcImm _ => exact execImmediate_answers _ adcOp_keeps
  | adcZp _ | adcZpx _ | adcAbs _ | adcAbsx _ | adcAbsy _ | adcIndx _ | adcIndy _ =>
    exact execRead_answers _ _ s adcOp_keeps
  | sbcImm _ => exact execImmediate_answers _ sbcOp_keeps
  | sbcZp _ | sbcZpx _ | sbcAbs _ | sbcAbsx _ | sbcAbsy _ | sbcIndx _ | sbcIndy _ =>
    exact execRead_answers _ _ s sbcOp_keeps
  | andImm _ => exact execImmediate_answers _ andOp_keeps
  | andZp _ | andZpx _ | andAbs _ | andAbsx _ | andAbsy _ | andIndx _ | andIndy _ =>
    exact execRead_answers _ _ s andOp_keeps
  | oraImm _ => exact execImmediate_answers _ oraOp_keeps
  | oraZp _ | oraZpx _ | oraAbs _ | oraAbsx _ | oraAbsy _ | oraIndx _ | oraIndy _ =>
    exact execRead_answers _ _ s oraOp_keeps
  | eorImm _ => exact execImmediate_answers _ eorOp_keeps
  | eorZp _ | eorZpx _ | eorAbs _ | eorAbsx _ | eorAbsy _ | eorIndx _ | eorIndy _ =>
    exact execRead_answers _ _ s eorOp_keeps
  | bitZp _ | bitAbs _ => exact execRead_answers _ _ s bitOp_keeps
  | cmpImm _ => exact execImmediate_answers _ cmpOp_keeps
  | cmpZp _ | cmpZpx _ | cmpAbs _ | cmpAbsx _ | cmpAbsy _ | cmpIndx _ | cmpIndy _ =>
    exact execRead_answers _ _ s cmpOp_keeps
  | cpxImm _ => exact execImmediate_answers _ cpxOp_keeps
  | cpxZp _ | cpxAbs _ => exact execRead_answers _ _ s cpxOp_keeps
  | cpyImm _ => exact execImmediate_answers _ cpyOp_keeps
  | cpyZp _ | cpyAbs _ => exact execRead_answers _ _ s cpyOp_keeps
  | incZp _ | incZpx _ | incAbs _ | incAbsx _ | decZp _ | decZpx _ | decAbs _ | decAbsx _ =>
    exact execModify_answers _ _ s fun _ _ => id
  | aslAcc | lsrAcc | rolAcc | rorAcc => exact execAccumulator_answers _ s fun _ _ => statusOk_putCarry _
  | aslZp _ | aslZpx _ | aslAbs _ | aslAbsx _ | lsrZp _ | lsrZpx _ | lsrAbs _ | lsrAbsx _ | rolZp _ | rolZpx _
  | rolAbs _ | rolAbsx _ | rorZp _ | rorZpx _ | rorAbs _ | rorAbsx _ =>
    exact execModify_answers _ _ s fun _ _ => statusOk_putCarry _
  | jmpAbs _ => exact finish_answers _ _ (InstrKeeps.setPc s _)
  | jmpInd _ => exact execJumpIndirect_answers _ _ s
  | jsrAbs _ => exact finish_answers _ _ ((push16_keeps _ s).trans (InstrKeeps.setPc _ _))
  | rts => exact execImplied_answers _ ((pop16_keeps s).trans (InstrKeeps.setPc _ _))
  | rti => exact execImplied_answers _ (returnFromInterrupt_keeps s)
  | brk => exact execImplied_answers _ (enterInterrupt_keeps _ _ _ s)
  | bcc _ | bcs _ | beq _ | bmi _ | bne _ | bpl _ | bvc _ | bvs _ => exact execBranch_answers _ _ _ s
  | clc | cld | cli | clv | sec | sed | sei =>
    exact execImplied_answers _ (InstrKeeps.putFlag s (by decide) (by decide) _)
  | nop => exact execImplied_answers _ (InstrKeeps.rfl' s)

/-- A CPU step answers a next state that keeps what an instruction keeps, whether its fetch completed or stopped. -/
theorem cpuStep_answers (s : State) : Answers s (cpuStep s) := by
  have hf := fetch_keeps s
  unfold cpuStep
  cases h : fetch s with
  | instr i t =>
    rw [h] at hf
    obtain ⟨u, hu, hk⟩ := exec_answers i t
    exact ⟨u, hu, InstrKeeps.trans hf hk⟩
  | stopped t =>
    rw [h] at hf
    exact ⟨t, rfl, hf.1⟩

theorem cpuStep_keeps {s t : State} (h : cpuStep s = .next t) : InstrKeeps s t := by
  obtain ⟨u, hu, hk⟩ := cpuStep_answers s
  cases hu.symm.trans h
  exact hk

/-- A step that answers a next state is a CPU step of a Running machine, then the scanlines it completes (R391). -/
theorem step_eq_next {s t : State} (h : step s = .next t) :
    s.run = .running ∧ ∃ u, cpuStep s = .next u ∧ t = chargeCycles u := by
  unfold step at h
  cases hr : s.run with
  | halted e => rw [hr] at h; cases h
  | running =>
    obtain ⟨u, hu, -⟩ := cpuStep_answers s
    rw [hr, hu] at h
    cases h
    exact ⟨rfl, u, hu, rfl⟩

/-- Settles O59: the CPU step keeps the three by its law, and the scanlines and the NMI keep them by theirs. -/
theorem romAndConfigurationNeverChange : Obligations.RomAndConfigurationNeverChange := by
  intro s t h
  obtain ⟨-, u, hu, rfl⟩ := step_eq_next h
  have hcpu := cpuStep_keeps hu
  have hlines := chargeCycles_keeps u
  exact ⟨hlines.prg.trans hcpu.prg, hlines.cfg.trans hcpu.cfg, fun hrom => hlines.chr.trans (hcpu.chrRom hrom)⟩

end Sys2Proof.Machine
end

section
/-! What every step keeps (10_state.md R32, R33, R42 to R49; 53_frame_scheduler.md R391). The CPU step and the turns of the
scheduler keep the status bits, the memories and the frame by their laws, and the loop runs until less than a scanline
is uncharged, because each turn lowers `turnBudget` and the fuel starts above it. -/

namespace Sys2Proof.Machine

/-- The parts of the invariant, with the scheduler's in the terms of its loop. -/
theorem inv_iff (s : State) :
    s.inv = true ↔
      statusOk s.p = true ∧ memoryOk s = true ∧ frameOk s.ppu.frame = true ∧ LineDone s ∧ s.cfg.wf = true := by
  have hsched : schedOk s = true ↔ LineDone s := by
    unfold schedOk LineDone
    cases s.run <;> simp
  simp only [State.inv, Bool.and_eq_true, hsched, and_assoc]

/-- With fuel above the budget the loop ends because it has nothing left to do. -/
theorem renderLines_lineDone {n : Nat} {s : State} (hw : s.cfg.wf = true) (hn : turnBudget s < n) :
    LineDone (renderLines n s) := by
  induction n generalizing s with
  | zero => omega
  | succ n ih =>
    by_cases h : LineDone s
    · rwa [renderLines_of_done h]
    · have hmore := not_not.mp h
      have hlower := turnBudget_renderOneLine hw hmore.2
      rw [renderLines, if_pos hmore]
      exact ih (by rwa [(renderOneLine_keeps s).cfg]) (by omega)

theorem chargeCycles_lineDone {s : State} (hw : s.cfg.wf = true) : LineDone (chargeCycles s) := by
  unfold chargeCycles
  split_ifs with hrun
  · exact renderLines_lineDone hw (turnBudget_lt_lineFuel _)
  · exact fun h => hrun h.1

/-- Settles O57: the CPU step and then the scanlines keep each part, and the scanlines end with nothing left to charge. -/
theorem stepKeepsInvariant : Obligations.StepKeepsInvariant := by
  intro s t hs h
  obtain ⟨hstatus, hmemory, hframe, -, hwf⟩ := (inv_iff s).mp hs
  obtain ⟨-, u, hu, rfl⟩ := step_eq_next h
  have hcpu := cpuStep_keeps hu
  have hlines := chargeCycles_keeps u
  have hwfu : u.cfg.wf = true := by rwa [hcpu.cfg]
  exact (inv_iff _).mpr
    ⟨hlines.status (hcpu.status hstatus), hlines.memory (hcpu.memory hmemory),
      hlines.frame (by rwa [hcpu.frame]), chargeCycles_lineDone hwfu, by rwa [hlines.cfg]⟩

/-- Settles O6: a step looks at the run state before anything else (R33, R402). -/
theorem haltedMachineTakesNoStep : Obligations.HaltedMachineTakesNoStep := by
  intro s e h
  rw [step, h]

end Sys2Proof.Machine
end

section
/-! Every instruction is made of the updates its rule allows (41 to 46; 20_memory.md R79, R82). `Allows i R` says that a
relation `R` between states holds across each of them: a write of a register the rule names or of a flag on its "Flags"
line, a stack byte stored by a pushing instruction, a bus read, the bus write of a storing form, the cost and a halt.
Then `R` holds across `exec i` (`exec_allowed`), and a frame statement is one choice of `R`. -/

namespace Sys2Proof.Machine

/-! ## The flags a computation leaves alone -/

/-- `q` agrees with `p` outside the bits of `m`. -/
def FlagsKept (m p q : Byte) : Prop := q &&& ~~~m = p &&& ~~~m

theorem FlagsKept.trans {m p q r : Byte} (h : FlagsKept m p q) (k : FlagsKept m q r) : FlagsKept m p r :=
  Eq.trans k h

theorem putFlag_getLsbD_other {f : Flag} {k : Nat} (hk : k < 8) (hf : k ≠ f.bit) (b : Bool) (p : Byte) :
    (putFlag f b p).getLsbD k = p.getLsbD k := by
  have hbit : (1#8 <<< f.bit).getLsbD k = false := by
    rw [← BitVec.twoPow_eq, BitVec.getLsbD_twoPow, decide_eq_false hf.symm, Bool.and_false]
  unfold putFlag
  split_ifs
  · rw [BitVec.getLsbD_or, hbit, Bool.or_false]
  · rw [BitVec.getLsbD_and, BitVec.getLsbD_not, hbit, Bool.not_false, Bool.and_true, decide_eq_true hk, Bool.and_true]

theorem putFlag_kept {m : Byte} {f : Flag} (h : m.getLsbD f.bit = true) (b : Bool) (p : Byte) :
    FlagsKept m p (putFlag f b p) := by
  refine BitVec.eq_of_getLsbD_eq fun k hk => ?_
  by_cases hf : k = f.bit
  · subst hf
    simp [h]
  · simp only [BitVec.getLsbD_and, putFlag_getLsbD_other hk hf]

theorem setNZ_kept {m : Byte} (hz : m.getLsbD 1 = true) (hn : m.getLsbD 7 = true) (v p : Byte) :
    FlagsKept m p (setNZ v p) :=
  (putFlag_kept (f := .z) hz _ p).trans (putFlag_kept (f := .n) hn _ _)

theorem adcFlags_kept (a v p : Byte) : FlagsKept 0xC3 p (adcFlags a v p) :=
  ((putFlag_kept rfl _ p).trans (putFlag_kept rfl _ _)).trans (setNZ_kept rfl rfl _ _)

theorem sbcFlags_kept (a v p : Byte) : FlagsKept 0xC3 p (sbcFlags a v p) :=
  ((putFlag_kept rfl _ p).trans (putFlag_kept rfl _ _)).trans (setNZ_kept rfl rfl _ _)

theorem compareFlags_kept (r v p : Byte) : FlagsKept 0x83 p (compareFlags r v p) :=
  (putFlag_kept rfl _ p).trans (setNZ_kept rfl rfl _ _)

theorem bitFlags_kept (a v p : Byte) : FlagsKept 0xC2 p (bitFlags a v p) :=
  ((putFlag_kept rfl _ p).trans (putFlag_kept rfl _ _)).trans (putFlag_kept rfl _ _)

/-! ## The updates an instruction's rule allows -/

/-- `R` holds across every update the rule of `i` allows. -/
structure Allows (i : Instr) (R : State → State → Prop) : Prop where
  refl : ∀ s, R s s
  trans : ∀ {s t u}, R s t → R t u → R s u
  setCyc : ∀ s n, R s (s.setCyc n)
  halt : ∀ s e, R s (s.halt e)
  read : ∀ a s, R s (busRead a s).state
  setA : writesA i = true → ∀ s v, R s (s.setA v)
  setX : writesX i = true → ∀ s v, R s (s.setX v)
  setY : writesY i = true → ∀ s v, R s (s.setY v)
  setSp : writesSp i = true → ∀ s v, R s (s.setSp v)
  setPc : writesPc i = true → ∀ s v, R s (s.setPc v)
  setP : ∀ s q, FlagsKept (writtenFlags i) s.p q → R s (s.setP q)
  store : pushedBytes i ≠ 0 → ∀ s v, R s (s.setRam (s.ram.write (stackIndex s.sp) v))
  write : ∀ m, shapeOf i = .store m ∨ shapeOf i = .modify m → ∀ a v s, R s (busWrite a v s).state

/-- A next state of the outcome is related to `s`. -/
def EndsIn (R : State → State → Prop) (s : State) (r : Host.Outcome State Fault Refusal) : Prop :=
  ∀ t, r = .next t → R s t

namespace Allows

variable {i : Instr} {R : State → State → Prop}

/-! ### The shapes -/

theorem finish (h : Allows i R) {s t : State} (hR : R s t) (n : Nat) : EndsIn R s (finish i n t) := by
  rintro _ ⟨⟩
  exact h.trans hR (h.setCyc t _)

theorem raiseIo (h : Allows i R) {s t : State} (hR : R s t) (pc : Word) (x : IoError) :
    EndsIn R s (raiseIo i pc x t) := by
  rintro _ ⟨⟩
  exact h.trans hR (h.halt t _)

theorem execRead (h : Allows i R) (m : MemMode) {f : Byte → State → State} (hf : ∀ v t, R t (f v t)) (s : State) :
    EndsIn R s (execRead i m f s) := by
  have hr := h.read (m.ea s) s
  cases k : busRead (m.ea s) s with
  | ok v t => rw [k] at hr; rw [execRead_ok k]; exact h.finish (h.trans hr (hf v t)) _
  | fatal x t => rw [k] at hr; rw [execRead_fatal k]; exact h.raiseIo hr _ x

theorem execStore (h : Allows i R) {m : MemMode} (hs : shapeOf i = .store m) (v : Byte) (s : State) :
    EndsIn R s (execStore i m v s) := by
  have hw := h.write m (.inl hs) (m.ea s) v s
  cases k : busWrite (m.ea s) v s with
  | ok w t => rw [k] at hw; rw [execStore_ok k]; exact h.finish hw _
  | fatal x t => rw [k] at hw; rw [execStore_fatal k]; exact h.raiseIo hw _ x

theorem execModify (h : Allows i R) {m : MemMode} (hs : shapeOf i = .modify m) {f : Byte → Byte → Byte × Byte}
    (hf : ∀ v p, FlagsKept (writtenFlags i) p (f v p).2) (hnz : ∀ v p, FlagsKept (writtenFlags i) p (setNZ v p))
    (s : State) : EndsIn R s (execModify i m f s) := by
  have hr := h.read (m.ea s) s
  cases k : busRead (m.ea s) s with
  | fatal x t => rw [k] at hr; rw [execModify_readFatal k]; exact h.raiseIo hr _ x
  | ok v t =>
    rw [k] at hr
    have hc := h.trans hr (h.setP t _ (hf v t.p))
    have hw := h.trans hc (h.write m (.inr hs) (m.ea s) (f v t.p).1 (t.setP (f v t.p).2))
    cases l : busWrite (m.ea s) (f v t.p).1 (t.setP (f v t.p).2) with
    | fatal x u => rw [l] at hw; rw [execModify_writeFatal k l]; exact h.raiseIo hw _ x
    | ok w u => rw [l] at hw; rw [execModify_ok k l]; exact h.finish (h.trans hw (h.setP u _ (hnz _ _))) _

theorem execBranch (h : Allows i R) (hp : writesPc i = true) (d : Byte) (c : Bool) (s : State) :
    EndsIn R s (execBranch i d c s) := by
  refine h.finish ?_ _
  split_ifs
  · exact h.setPc hp s _
  · exact h.refl s

theorem execJumpIndirect (h : Allows i R) (hp : writesPc i = true) (w : Word) (s : State) :
    EndsIn R s (execJumpIndirect i w s) := by
  unfold Machine.execJumpIndirect
  have hl := h.read w s
  cases k : busRead w s with
  | fatal x t => rw [k] at hl; exact h.raiseIo hl _ x
  | ok lo t =>
    rw [k] at hl
    have hh := h.trans hl (h.read (pointerHighAddress w) t)
    dsimp only
    cases l : busRead (pointerHighAddress w) t with
    | fatal x u => rw [l] at hh; exact h.raiseIo hh _ x
    | ok hi u => rw [l] at hh; exact h.finish (h.trans hh (h.setPc hp u _)) 0

/-! ### The operations -/

theorem setNZ (h : Allows i R) (hw : writtenFlags i = 0x82) (v : Byte) (s : State) : R s (s.setP (setNZ v s.p)) :=
  h.setP s _ (by rw [hw]; exact setNZ_kept rfl rfl v s.p)

/-- A register takes a value, then N and Z are set. -/
theorem setNZ_after (h : Allows i R) (hw : writtenFlags i = 0x82) {s t : State} (hR : R s t) (v : Byte) :
    R s (t.setP (Machine.setNZ v t.p)) :=
  h.trans hR (h.setNZ hw v t)

theorem pop (h : Allows i R) (hsp : writesSp i = true) (s : State) : R s (pop s).2 := h.setSp hsp s _

theorem pop16 (h : Allows i R) (hsp : writesSp i = true) (s : State) : R s (pop16 s).2 :=
  h.trans (h.pop hsp s) (h.pop hsp _)

theorem push (h : Allows i R) (hb : pushedBytes i ≠ 0) (hsp : writesSp i = true) (v : Byte) (s : State) :
    R s (push v s) :=
  h.trans (h.store hb s v) (h.setSp hsp _ _)

theorem push16 (h : Allows i R) (hb : pushedBytes i ≠ 0) (hsp : writesSp i = true) (w : Word) (s : State) :
    R s (push16 w s) :=
  h.trans (h.push hb hsp _ s) (h.push hb hsp _ _)

theorem execAccumulator (h : Allows i R) (hs : shapeOf i = .accumulator) {f : Byte → Byte → Byte × Byte}
    (hw : writtenFlags i = 0x83) (hf : ∀ v p, FlagsKept 0x83 p (f v p).2) (s : State) :
    EndsIn R s (execAccumulator i f s) := by
  refine h.finish (h.trans (h.setA (by simp [writesA, hs]) s _) (h.setP _ _ ?_)) 0
  rw [hw]
  exact (hf s.a s.p).trans (setNZ_kept rfl rfl _ _)

theorem modifyShift (h : Allows i R) {m : MemMode} (hs : shapeOf i = .modify m) {f : Byte → Byte → Byte × Byte}
    (hw : writtenFlags i = 0x83) (hf : ∀ v p, FlagsKept 0x83 p (f v p).2) (s : State) :
    EndsIn R s (Machine.execModify i m f s) := by
  refine h.execModify hs ?_ ?_ s <;> rw [hw]
  · exact hf
  · exact setNZ_kept rfl rfl

theorem modifyStep (h : Allows i R) {m : MemMode} (hs : shapeOf i = .modify m) {f : Byte → Byte → Byte × Byte}
    (hw : writtenFlags i = 0x82) (hf : ∀ v p, (f v p).2 = p) (s : State) :
    EndsIn R s (Machine.execModify i m f s) := by
  refine h.execModify hs (fun v p => ?_) ?_ s
  · rw [hf]; rfl
  · rw [hw]; exact setNZ_kept rfl rfl

/-! ### The mnemonics that come in several forms -/

theorem lda (h : Allows i R) (hm : mnemonic i = "LDA") (v : Byte) (s : State) : R s (ldaOp v s) :=
  h.setNZ_after (by simp [writtenFlags, hm]) (h.setA (by simp [writesA, hm]) s v) v

theorem ldx (h : Allows i R) (hm : mnemonic i = "LDX") (v : Byte) (s : State) : R s (ldxOp v s) :=
  h.setNZ_after (by simp [writtenFlags, hm]) (h.setX (by simp [writesX, hm]) s v) v

theorem ldy (h : Allows i R) (hm : mnemonic i = "LDY") (v : Byte) (s : State) : R s (ldyOp v s) :=
  h.setNZ_after (by simp [writtenFlags, hm]) (h.setY (by simp [writesY, hm]) s v) v

theorem and (h : Allows i R) (hm : mnemonic i = "AND") (v : Byte) (s : State) : R s (andOp v s) :=
  h.setNZ_after (by simp [writtenFlags, hm]) (h.setA (by simp [writesA, hm]) s _) _

theorem ora (h : Allows i R) (hm : mnemonic i = "ORA") (v : Byte) (s : State) : R s (oraOp v s) :=
  h.setNZ_after (by simp [writtenFlags, hm]) (h.setA (by simp [writesA, hm]) s _) _

theorem eor (h : Allows i R) (hm : mnemonic i = "EOR") (v : Byte) (s : State) : R s (eorOp v s) :=
  h.setNZ_after (by simp [writtenFlags, hm]) (h.setA (by simp [writesA, hm]) s _) _

/-- P takes the result of a flag computation that writes only flags of the rule. -/
theorem setFlags (h : Allows i R) {m : Byte} (hw : writtenFlags i = m) {s : State} {q : Byte}
    (hk : FlagsKept m s.p q) : R s (s.setP q) :=
  h.setP s q (by rwa [hw])

theorem adc (h : Allows i R) (hm : mnemonic i = "ADC") (v : Byte) (s : State) : R s (adcOp v s) :=
  h.trans (h.setA (by simp [writesA, hm]) s _) (h.setFlags (by simp [writtenFlags, hm]) (adcFlags_kept s.a v s.p))

theorem sbc (h : Allows i R) (hm : mnemonic i = "SBC") (v : Byte) (s : State) : R s (sbcOp v s) :=
  h.trans (h.setA (by simp [writesA, hm]) s _) (h.setFlags (by simp [writtenFlags, hm]) (sbcFlags_kept s.a v s.p))

theorem bit (h : Allows i R) (hm : mnemonic i = "BIT") (v : Byte) (s : State) : R s (bitOp v s) :=
  h.setFlags (by simp [writtenFlags, hm]) (bitFlags_kept s.a v s.p)

theorem cmp (h : Allows i R) (hm : mnemonic i = "CMP") (v : Byte) (s : State) : R s (cmpOp v s) :=
  h.setFlags (by simp [writtenFlags, hm]) (compareFlags_kept s.a v s.p)

theorem cpx (h : Allows i R) (hm : mnemonic i = "CPX") (v : Byte) (s : State) : R s (cpxOp v s) :=
  h.setFlags (by simp [writtenFlags, hm]) (compareFlags_kept s.x v s.p)

theorem cpy (h : Allows i R) (hm : mnemonic i = "CPY") (v : Byte) (s : State) : R s (cpyOp v s) :=
  h.setFlags (by simp [writtenFlags, hm]) (compareFlags_kept s.y v s.p)

/-- The rule names the flag that is written. -/
theorem putFlag (h : Allows i R) {f : Flag} (hf : (writtenFlags i).getLsbD f.bit = true) (b : Bool) (s : State) :
    R s (s.setP (putFlag f b s.p)) :=
  h.setP s _ (putFlag_kept hf b s.p)

/-- Where the rule writes every flag, P may take any value. -/
theorem setAllFlags (h : Allows i R) (hw : writtenFlags i = 0xFF) (s : State) (q : Byte) : R s (s.setP q) :=
  h.setFlags hw (by simp [FlagsKept])

end Allows

/-! ## Every instruction -/

/-- A relation that holds across the updates the rule of `i` allows holds across `exec i`. -/
theorem exec_allowed {i : Instr} {R : State → State → Prop} (h : Allows i R) (s : State) : EndsIn R s (exec i s) := by
  cases i with
  | ldaImm _ => exact h.finish (h.lda rfl _ s) 0
  | ldaZp _ | ldaZpx _ | ldaAbs _ | ldaAbsx _ | ldaAbsy _ | ldaIndx _ | ldaIndy _ => exact h.execRead _ (h.lda rfl) s
  | ldxImm _ => exact h.finish (h.ldx rfl _ s) 0
  | ldxZp _ | ldxZpy _ | ldxAbs _ | ldxAbsy _ => exact h.execRead _ (h.ldx rfl) s
  | ldyImm _ => exact h.finish (h.ldy rfl _ s) 0
  | ldyZp _ | ldyZpx _ | ldyAbs _ | ldyAbsx _ => exact h.execRead _ (h.ldy rfl) s
  | staZp _ | staZpx _ | staAbs _ | staAbsx _ | staAbsy _ | staIndx _ | staIndy _ | stxZp _ | stxZpy _ | stxAbs _
  | styZp _ | styZpx _ | styAbs _ => exact h.execStore rfl _ s
  | tax | tsx | inx | dex =>
    exact h.finish (h.setNZ_after (by simp [writtenFlags, mnemonic]) (h.setX (by simp [writesX, mnemonic]) s _) _) 0
  | tay | iny | dey =>
    exact h.finish (h.setNZ_after (by simp [writtenFlags, mnemonic]) (h.setY (by simp [writesY, mnemonic]) s _) _) 0
  | txa | tya =>
    exact h.finish (h.setNZ_after (by simp [writtenFlags, mnemonic]) (h.setA (by simp [writesA, mnemonic]) s _) _) 0
  | txs => exact h.finish (h.setSp (by simp [writesSp, mnemonic]) s _) 0
  | pha | php => exact h.finish (h.push (by simp [pushedBytes, mnemonic]) (by simp [writesSp, mnemonic]) _ s) 0
  | pla =>
    have ha := h.trans (h.pop (by simp [writesSp, mnemonic]) s) (h.setA (by simp [writesA, mnemonic]) _ (pop s).1)
    exact h.finish (h.setNZ_after (by simp [writtenFlags, mnemonic]) ha _) 0
  | plp =>
    have hp := h.pop (by simp [writesSp, mnemonic]) s
    exact h.finish (h.trans hp (h.setAllFlags (by simp [writtenFlags, mnemonic]) _ _)) 0
  | adcImm _ => exact h.finish (h.adc rfl _ s) 0
  | adcZp _ | adcZpx _ | adcAbs _ | adcAbsx _ | adcAbsy _ | adcIndx _ | adcIndy _ => exact h.execRead _ (h.adc rfl) s
  | sbcImm _ => exact h.finish (h.sbc rfl _ s) 0
  | sbcZp _ | sbcZpx _ | sbcAbs _ | sbcAbsx _ | sbcAbsy _ | sbcIndx _ | sbcIndy _ => exact h.execRead _ (h.sbc rfl) s
  | andImm _ => exact h.finish (h.and rfl _ s) 0
  | andZp _ | andZpx _ | andAbs _ | andAbsx _ | andAbsy _ | andIndx _ | andIndy _ => exact h.execRead _ (h.and rfl) s
  | oraImm _ => exact h.finish (h.ora rfl _ s) 0
  | oraZp _ | oraZpx _ | oraAbs _ | oraAbsx _ | oraAbsy _ | oraIndx _ | oraIndy _ => exact h.execRead _ (h.ora rfl) s
  | eorImm _ => exact h.finish (h.eor rfl _ s) 0
  | eorZp _ | eorZpx _ | eorAbs _ | eorAbsx _ | eorAbsy _ | eorIndx _ | eorIndy _ => exact h.execRead _ (h.eor rfl) s
  | bitZp _ | bitAbs _ => exact h.execRead _ (h.bit rfl) s
  | cmpImm _ => exact h.finish (h.cmp rfl _ s) 0
  | cmpZp _ | cmpZpx _ | cmpAbs _ | cmpAbsx _ | cmpAbsy _ | cmpIndx _ | cmpIndy _ => exact h.execRead _ (h.cmp rfl) s
  | cpxImm _ => exact h.finish (h.cpx rfl _ s) 0
  | cpxZp _ | cpxAbs _ => exact h.execRead _ (h.cpx rfl) s
  | cpyImm _ => exact h.finish (h.cpy rfl _ s) 0
  | cpyZp _ | cpyAbs _ => exact h.execRead _ (h.cpy rfl) s
  | incZp _ | incZpx _ | incAbs _ | incAbsx _ | decZp _ | decZpx _ | decAbs _ | decAbsx _ =>
    exact h.modifyStep rfl (by simp [writtenFlags, mnemonic]) (fun _ _ => rfl) s
  | aslAcc | lsrAcc | rolAcc | rorAcc =>
    exact h.execAccumulator rfl (by simp [writtenFlags, mnemonic]) (fun _ _ => putFlag_kept rfl _ _) s
  | aslZp _ | aslZpx _ | aslAbs _ | aslAbsx _ | lsrZp _ | lsrZpx _ | lsrAbs _ | lsrAbsx _ | rolZp _ | rolZpx _
  | rolAbs _ | rolAbsx _ | rorZp _ | rorZpx _ | rorAbs _ | rorAbsx _ =>
    exact h.modifyShift rfl (by simp [writtenFlags, mnemonic]) (fun _ _ => putFlag_kept rfl _ _) s
  | jmpAbs _ => exact h.finish (h.setPc (by simp [writesPc, mnemonic]) s _) 0
  | jmpInd _ => exact h.execJumpIndirect (by simp [writesPc, mnemonic]) _ s
  | jsrAbs _ =>
    have hp := h.push16 (by simp [pushedBytes, mnemonic]) (by simp [writesSp, mnemonic]) (s.pc - 1) s
    exact h.finish (h.trans hp (h.setPc (by simp [writesPc, mnemonic]) _ _)) 0
  | rts =>
    have hp := h.pop16 (by simp [writesSp, mnemonic]) s
    exact h.finish (h.trans hp (h.setPc (by simp [writesPc, mnemonic]) _ _)) 0
  | rti =>
    have hsp : writesSp .rti = true := by simp [writesSp, mnemonic]
    have hp := h.trans (h.pop hsp s) (h.setAllFlags (by simp [writtenFlags, mnemonic]) _ (statusFromStack (pop s).1))
    exact h.finish (h.trans (h.trans hp (h.pop16 hsp _)) (h.setPc (by simp [writesPc, mnemonic]) _ _)) 0
  | brk =>
    have hb : pushedBytes .brk ≠ 0 := by simp [pushedBytes, mnemonic]
    have hsp : writesSp .brk = true := by simp [writesSp, mnemonic]
    have hp := h.trans (h.push16 hb hsp (s.pc + 1) s) (h.push hb hsp (statusForBreak s.p) _)
    have hi := h.trans hp (h.putFlag (f := .i) (by simp [writtenFlags, mnemonic, Flag.bit]) true _)
    exact h.finish (h.trans hi (h.setPc (by simp [writesPc, mnemonic]) _ _)) 0
  | bcc _ | bcs _ | beq _ | bmi _ | bne _ | bpl _ | bvc _ | bvs _ =>
    exact h.execBranch (by simp [writesPc, mnemonic]) _ _ s
  | clc | cld | cli | clv | sec | sed | sei =>
    exact h.finish (h.putFlag (by simp [writtenFlags, mnemonic, Flag.bit]) _ s) 0
  | nop => exact h.finish (h.refl s) 0

/-! ## The registers, the flags and what no instruction reaches -/

/-- What `i` leaves of the registers and flags, and of what no instruction changes. -/
structure RegistersKept (i : Instr) (s t : State) : Prop where
  a : writesA i = false → t.a = s.a
  x : writesX i = false → t.x = s.x
  y : writesY i = false → t.y = s.y
  sp : writesSp i = false → t.sp = s.sp
  pc : writesPc i = false → t.pc = s.pc
  p : FlagsKept (writtenFlags i) s.p t.p
  prg : t.prg = s.prg
  cfg : t.cfg = s.cfg
  sched : t.sched = s.sched
  frame : t.ppu.frame = s.ppu.frame

theorem RegistersKept.trans {i : Instr} {s t u : State} (h : RegistersKept i s t) (k : RegistersKept i t u) :
    RegistersKept i s u where
  a hi := (k.a hi).trans (h.a hi)
  x hi := (k.x hi).trans (h.x hi)
  y hi := (k.y hi).trans (h.y hi)
  sp hi := (k.sp hi).trans (h.sp hi)
  pc hi := (k.pc hi).trans (h.pc hi)
  p := h.p.trans k.p
  prg := k.prg.trans h.prg
  cfg := k.cfg.trans h.cfg
  sched := k.sched.trans h.sched
  frame := k.frame.trans h.frame

theorem RegistersKept.of_sameOutside (i : Instr) {s t : State} (h : SameOutside s t) : RegistersKept i s t where
  a _ := h.a
  x _ := h.x
  y _ := h.y
  sp _ := h.sp
  pc _ := h.pc
  p := by rw [h.p]; rfl
  prg := h.prg
  cfg := h.cfg
  sched := h.sched
  frame := h.frame

/-- Whatever an access ends in, it kept what an access keeps. -/
theorem AccessKeeps.state {α : Type} {s : State} {r : Access α} (h : AccessKeeps s r) : SameOutside s r.state := by
  cases r <;> exact h.1

theorem registersKept_allowed (i : Instr) : Allows i (RegistersKept i) where
  refl s := .of_sameOutside i (SameOutside.rfl' s)
  trans := .trans
  setCyc s n := by constructor <;> intros <;> rfl
  halt s e := by constructor <;> intros <;> rfl
  read a s := .of_sameOutside i (busRead_keeps a s).state
  setA hw s v := by constructor <;> simp [hw, FlagsKept]
  setX hw s v := by constructor <;> simp [hw, FlagsKept]
  setY hw s v := by constructor <;> simp [hw, FlagsKept]
  setSp hw s v := by constructor <;> simp [hw, FlagsKept]
  setPc hw s v := by constructor <;> simp [hw, FlagsKept]
  setP s q hq := by
    constructor
    case p => exact hq
    all_goals simp
  store hb s v := by constructor <;> intros <;> rfl
  write m hs a v s := .of_sameOutside i (busWrite_keeps a v s).state

/-- Settles O32: each update the rule allows keeps what the statement says. -/
theorem registerFrame : Obligations.RegisterFrame := by
  intro i s t h
  obtain ⟨ha, hx, hy, hsp, hpc, hp, hprg, hcfg, hsched, hframe⟩ := exec_allowed (registersKept_allowed i) s t h
  exact ⟨ha, hx, hy, hsp, hpc, hp, hprg, hcfg, hsched, hframe⟩

/-! ## The memories -/

/-- The memories of the CPU and the PPU, and the DMA stall, are as they were. -/
structure MemoryKept (s t : State) : Prop where
  ram : t.ram = s.ram
  sram : t.sram = s.sram
  prg : t.prg = s.prg
  cfg : t.cfg = s.cfg
  dmaStall : t.dmaStall = s.dmaStall
  ciram : t.ppu.ciram = s.ppu.ciram
  palette : t.ppu.palette = s.ppu.palette
  chr : t.ppu.chr = s.ppu.chr
  oam : t.ppu.oam = s.ppu.oam

theorem MemoryKept.trans {s t u : State} (h : MemoryKept s t) (k : MemoryKept t u) : MemoryKept s u where
  ram := k.ram.trans h.ram
  sram := k.sram.trans h.sram
  prg := k.prg.trans h.prg
  cfg := k.cfg.trans h.cfg
  dmaStall := k.dmaStall.trans h.dmaStall
  ciram := k.ciram.trans h.ciram
  palette := k.palette.trans h.palette
  chr := k.chr.trans h.chr
  oam := k.oam.trans h.oam

theorem MemoryKept.sameMemory {s t : State} (h : MemoryKept s t) : sameMemory s t := by
  refine ⟨fun a => ?_, fun a => ?_, fun i => by rw [h.oam]⟩
  · simp only [peek, State.prgByte, h.ram, h.sram, h.prg, h.cfg]
  · simp only [ppuRead, h.cfg, h.ciram, h.palette, h.chr]

theorem busRead_memoryKept (a : Word) (s : State) : MemoryKept s (busRead a s).state := by
  have hk := (busRead_keeps a s).state
  cases h : busRead a s with
  | ok v t =>
    rw [h] at hk
    obtain ⟨hram, hsram, hstall, hciram, hpalette, hchr, hoam, -⟩ := busRead_memory h
    exact ⟨hram, hsram, hk.prg, hk.cfg, hstall, hciram, hpalette, hchr, hoam⟩
  | fatal x t =>
    obtain ⟨rfl, -, -⟩ := busRead_fatal h
    constructor <;> rfl

theorem memoryKept_allowed {i : Instr} (hb : pushedBytes i = 0) (hs : ∀ m, shapeOf i ≠ .store m)
    (hm : ∀ m, shapeOf i ≠ .modify m) : Allows i MemoryKept where
  read := busRead_memoryKept
  trans := .trans
  store h := absurd hb h
  write m h := absurd h (not_or.mpr ⟨hs m, hm m⟩)
  refl _ := by constructor <;> rfl
  setCyc _ _ := by constructor <;> rfl
  halt _ _ := by constructor <;> rfl
  setA _ _ _ := by constructor <;> rfl
  setX _ _ _ := by constructor <;> rfl
  setY _ _ _ := by constructor <;> rfl
  setSp _ _ _ := by constructor <;> rfl
  setPc _ _ _ := by constructor <;> rfl
  setP _ _ _ := by constructor <;> rfl

/-- Settles O33: a form that neither stores nor pushes only reads the bus and writes registers, and both keep the
memories. -/
theorem readsLeaveMemory : Obligations.ReadsLeaveMemory := by
  intro i s t h hb hs hm
  have hk := exec_allowed (memoryKept_allowed hb hs hm) s t h
  exact ⟨hk.sameMemory, hk.dmaStall⟩

end Sys2Proof.Machine
end

section
/-! The PPU address space as cells (20_memory.md R90 to R95): `ppuCell` names the byte of an address, a read returns
that byte and a write replaces it. What an address folds to is then a fact about `ppuCell` alone. -/

namespace Sys2Proof.Machine

/-! ## Reads and writes go through the cell -/

/-- The memory a cell's first number names: 0 pattern memory, 1 name-table RAM, 2 palette RAM. -/
def Ppu.bank (p : Ppu) : Nat → Memory
  | 0 => p.chr
  | 1 => p.ciram
  | _ => p.palette

/-- The PPU with one of the three memories replaced. -/
def Ppu.setBank (p : Ppu) : Nat → Memory → Ppu
  | 0, m => { p with chr := m }
  | 1, m => { p with ciram := m }
  | _, m => { p with palette := m }

theorem Ppu.bank_setBank (p : Ppu) (m : Memory) {j k : Nat} (hj : j ≤ 2) (hk : k ≤ 2) :
    (p.setBank k m).bank j = if k = j then m else p.bank j := by
  interval_cases j <;> interval_cases k <;> rfl

theorem ppuCell_fst_le (cfg : Config) (a : Word) : (ppuCell cfg a).1 ≤ 2 := by
  unfold ppuCell
  dsimp only
  split_ifs <;> dsimp only <;> omega

theorem ppuRead_eq_bank (cfg : Config) (p : Ppu) (a : Word) :
    ppuRead cfg p a = (p.bank (ppuCell cfg a).1).read (ppuCell cfg a).2 := by
  unfold ppuRead ppuCell
  dsimp only
  split_ifs <;> rfl

theorem ppuWrite_eq_setBank (cfg : Config) (p : Ppu) (a : Word) (v : Byte) :
    ppuWrite cfg p a v =
      if (ppuCell cfg a).1 = 0 ∧ cfg.chrRom = true then p
      else p.setBank (ppuCell cfg a).1 ((p.bank (ppuCell cfg a).1).write (ppuCell cfg a).2 v) := by
  unfold ppuWrite ppuCell
  dsimp only
  by_cases hchr : (a &&& 0x3FFF#16) ≤ 0x1FFF#16
  · simp only [if_pos hchr, true_and]
    rfl
  · by_cases hname : (a &&& 0x3FFF#16) ≤ 0x3EFF#16
    · simp only [if_neg hchr, if_pos hname, one_ne_zero, false_and, if_false]
      rfl
    · simp only [if_neg hchr, if_neg hname, two_ne_zero, false_and, if_false]
      rfl

/-- A write replaces the byte of its cell, and a read returns the byte of its cell. -/
theorem ppuRead_ppuWrite (cfg : Config) (p : Ppu) (a b : Word) (v : Byte) :
    ppuRead cfg (ppuWrite cfg p a v) b =
      if ppuCell cfg a = ppuCell cfg b ∧ ¬((ppuCell cfg a).1 = 0 ∧ cfg.chrRom = true) then v else ppuRead cfg p b := by
  rw [ppuWrite_eq_setBank, ppuRead_eq_bank, ppuRead_eq_bank]
  by_cases hrom : (ppuCell cfg a).1 = 0 ∧ cfg.chrRom = true
  · rw [if_pos hrom, if_neg fun h => h.2 hrom]
  · rw [if_neg hrom, Ppu.bank_setBank p _ (ppuCell_fst_le cfg b) (ppuCell_fst_le cfg a)]
    by_cases hbank : (ppuCell cfg a).1 = (ppuCell cfg b).1
    · rw [if_pos hbank, hbank, Memory.read_write]
      exact if_congr ⟨fun h => ⟨Prod.ext hbank h.symm, hbank ▸ hrom⟩, fun h => (congrArg Prod.snd h.1).symm⟩ rfl rfl
    · rw [if_neg hbank, if_neg fun h => hbank (congrArg Prod.fst h.1)]

theorem Ppu.setBank_outside (p : Ppu) (k : Nat) (m : Memory) :
    { p.setBank k m with chr := p.chr, ciram := p.ciram, palette := p.palette } = p := by
  match k with
  | 0 | 1 | _ + 2 => rfl

/-- Settles O45. -/
theorem ppuWriteThenRead : Obligations.PpuWriteThenRead := by
  intro cfg p a b v
  refine ⟨ppuRead_ppuWrite cfg p a b v, ?_⟩
  rw [ppuWrite_eq_setBank]
  split_ifs
  · rfl
  · exact p.setBank_outside _ _

/-! ## Addresses as numbers -/

theorem toNat_and_mask (a : Word) (k : Nat) (m : Word) (hm : m.toNat = 2 ^ k - 1) :
    (a &&& m).toNat = a.toNat % 2 ^ k := by
  rw [BitVec.toNat_and, hm, Nat.and_two_pow_sub_one_eq_mod]

theorem ppuCell_mod (cfg : Config) (a : Word) : ppuCell cfg (BitVec.ofNat 16 (a.toNat % 0x4000)) = ppuCell cfg a := by
  have h : BitVec.ofNat 16 (a.toNat % 0x4000) &&& 0x3FFF#16 = a &&& 0x3FFF#16 := by
    rw [← BitVec.toNat_inj, toNat_and_mask _ 14 _ rfl, toNat_and_mask _ 14 _ rfl, BitVec.toNat_ofNat]
    omega
  rw [ppuCell, h]
  rfl

theorem and_3FFF_of_lt {a : Word} (h : a.toNat < 0x4000) : a &&& 0x3FFF#16 = a := by
  rw [← BitVec.toNat_inj, toNat_and_mask _ 14 _ rfl]
  exact Nat.mod_eq_of_lt h

theorem ppuCell_pattern (cfg : Config) {a : Word} (h : a.toNat ≤ 0x1FFF) : ppuCell cfg a = (0, a.toNat) := by
  rw [ppuCell, and_3FFF_of_lt (by omega)]
  exact if_pos h

theorem ppuCell_nameTable (cfg : Config) {a : Word} (h : 0x2000 ≤ a.toNat) (h' : a.toNat ≤ 0x3EFF) :
    ppuCell cfg a = (1, ntIndex cfg.mirroring a) := by
  have h0 : ¬a ≤ 0x1FFF#16 := by rw [BitVec.le_def]; simp; omega
  rw [ppuCell, and_3FFF_of_lt (by omega), if_neg h0, if_pos (show a ≤ 0x3EFF#16 from h')]

theorem ppuCell_palette (cfg : Config) {a : Word} (h : 0x3F00 ≤ a.toNat) (h' : a.toNat ≤ 0x3FFF) :
    ppuCell cfg a = (2, palIndex a) := by
  have h0 : ¬a ≤ 0x1FFF#16 := by rw [BitVec.le_def]; simp; omega
  have h1 : ¬a ≤ 0x3EFF#16 := by rw [BitVec.le_def]; simp; omega
  rw [ppuCell, and_3FFF_of_lt (by omega), if_neg h0, if_neg h1]

/-- The offset of an address in the name-table space of 0x1000 bytes (R93). -/
theorem ntOffset_toNat {a : Word} (h : 0x2000 ≤ a.toNat) :
    ((a - 0x2000#16) &&& 0x0FFF#16).toNat = (a.toNat - 0x2000) % 0x1000 := by
  rw [toNat_and_mask _ 12 _ rfl]
  bv_omega

theorem ntIndex_vertical {a : Word} (h : 0x2000 ≤ a.toNat) : ntIndex .vertical a = (a.toNat - 0x2000) % 0x800 := by
  simp only [ntIndex]
  rw [toNat_and_mask _ 11 _ rfl, ntOffset_toNat h]
  omega

theorem ntIndex_horizontal {a : Word} (h : 0x2000 ≤ a.toNat) :
    ntIndex .horizontal a = (a.toNat - 0x2000) % 0x1000 / 0x800 * 0x400 + (a.toNat - 0x2000) % 0x400 := by
  have hn := ntOffset_toNat h
  simp only [ntIndex]
  generalize (a - 0x2000#16) &&& 0x0FFF#16 = n at hn
  have hlo : (n &&& 0x03FF#16).toNat = (a.toNat - 0x2000) % 0x400 := by
    rw [toNat_and_mask _ 10 _ rfl, hn]
    omega
  have hhi : (((n >>> 11) &&& 1#16) <<< 10).toNat = ((a.toNat - 0x2000) % 0x1000 / 0x800) <<< 10 := by
    rw [BitVec.toNat_shiftLeft, toNat_and_mask _ 1 _ rfl, BitVec.toNat_ushiftRight, hn, Nat.shiftRight_eq_div_pow]
    simp only [Nat.shiftLeft_eq]
    omega
  rw [BitVec.toNat_or, hhi, hlo, ← Nat.shiftLeft_add_eq_or_of_lt (by omega), Nat.shiftLeft_eq]

/-- 0x3000 to 0x3EFF mirrors 0x2000 to 0x2EFF (R95). -/
theorem ntIndex_mirror (m : Mirroring) {a : Word} (h : 0x3000 ≤ a.toNat) : ntIndex m (a - 0x1000) = ntIndex m a := by
  have hsub : (a - 0x1000).toNat = a.toNat - 0x1000 := by bv_omega
  cases m
  · rw [ntIndex_vertical (by omega), ntIndex_vertical (by omega), hsub]
    omega
  · rw [ntIndex_horizontal (by omega), ntIndex_horizontal (by omega), hsub]
    omega

/-- The palette repeats every 32 bytes, with four addresses folded onto the first half (R94). -/
theorem palIndex_eq (a : Word) :
    palIndex a = if a.toNat % 32 ∈ [0x10, 0x14, 0x18, 0x1C] then a.toNat % 16 else a.toNat % 32 := by
  have key : ∀ o : BitVec 5,
      (if o.setWidth 16 &&& 0x13#16 = 0x10#16 then (o.setWidth 16 &&& 0x0F#16).toNat else (o.setWidth 16).toNat) =
        if o.toNat ∈ [0x10, 0x14, 0x18, 0x1C] then o.toNat % 16 else o.toNat := by decide
  have hcut : a &&& 0x1F#16 = (a.setWidth 5).setWidth 16 := by
    rw [← BitVec.toNat_inj, toNat_and_mask _ 5 _ rfl, BitVec.toNat_setWidth, BitVec.toNat_setWidth]
    omega
  have hmod : a.toNat % 32 % 16 = a.toNat % 16 := by omega
  rw [palIndex, hcut]
  exact (key _).trans (by rw [BitVec.toNat_setWidth, show 2 ^ 5 = 32 from rfl, hmod])

/-- Settles O44: an address reads the byte its cell names. -/
theorem ppuSpaceMirrors : Obligations.PpuSpaceMirrors := by
  intro cfg p a
  simp only [ppuRead_eq_bank]
  refine ⟨by rw [ppuCell_mod], fun h => by rw [ppuCell_pattern cfg h]; rfl, fun h h' hm => ?_, fun h h' hm => ?_,
    fun h h' => ?_, fun h h' => ?_⟩
  · rw [ppuCell_nameTable cfg h h', hm, ntIndex_vertical h]
    rfl
  · rw [ppuCell_nameTable cfg h h', hm, ntIndex_horizontal h]
    rfl
  · have hsub : (a - 0x1000).toNat = a.toNat - 0x1000 := by bv_omega
    rw [ppuCell_nameTable cfg (by omega) h', ppuCell_nameTable cfg (by omega) (by omega), ntIndex_mirror _ h]
  · rw [ppuCell_palette cfg h h', palIndex_eq]
    rfl

end Sys2Proof.Machine
end

section
/-! The sprite DMA, page by page (20_memory.md R84; 53_frame_scheduler.md R393). The source pages are told apart by what
a read of them does: nothing (below 0x20 and above 0x40), one controller read (0x40), or a fatal error at the first byte
(0x20 to 0x3F). -/

namespace Sys2Proof.Machine

/-! ## The bytes of a source page -/

/-- Byte `k` of a page lies at `page * 256 + k`. -/
theorem mkWord_page (page : Byte) {k : Nat} (hk : k < 256) :
    mkWord page (BitVec.ofNat 8 k) = BitVec.ofNat 16 (page.toNat * 256 + k) := by
  have := page.isLt
  rw [← BitVec.toNat_inj, mkWord_toNat, BitVec.toNat_ofNat, BitVec.toNat_ofNat]
  omega

theorem pageByte_toNat (page : Byte) {k : Nat} (hk : k < 256) :
    (BitVec.ofNat 16 (page.toNat * 256 + k) : Word).toNat = page.toNat * 256 + k := by
  have := page.isLt
  rw [BitVec.toNat_ofNat]
  omega

/-- Outside the PPU registers and the controller port a byte is readable without a side effect (R79). -/
theorem peek_isSome {a : Word} (hppu : regionOf a ≠ .ppu) (hpad : regionOf a ≠ .pad) (s : State) :
    ∃ v, peek s a = some v := by
  unfold peek
  cases h : regionOf a <;> simp_all

theorem peek_io {a : Word} (h : 0x4000 ≤ a.toNat) (h' : a.toNat ≤ 0x5FFF) (hpad : a ≠ 0x4016#16) (s : State) :
    peek s a = some 0x00 := by
  unfold peek
  cases hr : regionOf a
  case ram => have := regionOf_eq_ram.mp hr; omega
  case ppu => have := regionOf_eq_ppu.mp hr; omega
  case pad => exact absurd (regionOf_eq_pad.mp hr) hpad
  case sram => have := regionOf_eq_sram.mp hr; omega
  case prg => have := regionOf_eq_prg.mp hr; omega
  all_goals rfl

/-! ## The copy -/

theorem peek_setOam (s : State) (o : Memory) (a : Word) : peek (s.setOam o) a = peek s a := rfl

theorem busWrite_dma (page : Byte) (s : State) : busWrite 0x4014 page s = oamDma page s := rfl

/-- A copy that completes leaves the controller as `d` and sprite RAM as `o`; then the stall is added (R84, R393). -/
theorem busWrite_dma_of_copy {page : Byte} {s : State} {d : Pad} {o : Memory}
    (h : oamDmaCopy page (List.range 256) s = .ok () ((s.setPad d).setOam o)) :
    ∃ t, busWrite 0x4014 page s = .ok () t ∧ t.ppu.oam = o ∧ t.ppu.oamAddr = s.ppu.oamAddr ∧
      t.dmaStall = s.dmaStall + s.cfg.oamDmaStall ∧ (∀ a, peek t a = peek s a) ∧ t.pad = d ∧
      { t.ppu with oam := s.ppu.oam } = s.ppu :=
  ⟨((s.setPad d).setOam o).setDmaStall (s.dmaStall + s.cfg.oamDmaStall), by rw [busWrite_dma, oamDma, h]; rfl,
    rfl, rfl, rfl, fun _ => rfl, rfl, rfl⟩

/-- Byte `k` of a whole page is copied to the cursor plus `k` modulo 256. -/
theorem oamCopied_page (cursor : Byte) (f : Nat → Byte) (o : Memory) {k : Nat} (hk : k < 256) :
    (oamCopied cursor f (List.range 256) o).read ((cursor.toNat + k) % 256) = f k :=
  oamCopied_read (fun _ => List.mem_range.mp) List.nodup_range (List.mem_range.mpr hk) o

/-- The byte a page supplies where it is readable without a side effect. -/
def pageByte (s : State) (page : Byte) (k : Nat) : Byte := (peek s (mkWord page (BitVec.ofNat 8 k))).getD 0x00

theorem peek_quietPage {page : Byte} (hpage : page.toNat < 0x20 ∨ 0x40 < page.toNat) {k : Nat} (hk : k < 256)
    (s : State) : peek s (mkWord page (BitVec.ofNat 8 k)) = some (pageByte s page k) := by
  have hword := pageByte_toNat page hk
  unfold pageByte
  rw [mkWord_page page hk]
  obtain ⟨v, hv⟩ := peek_isSome (a := BitVec.ofNat 16 (page.toNat * 256 + k)) (s := s)
    (fun h => by have := regionOf_eq_ppu.mp h; omega)
    (fun h => by rw [regionOf_eq_pad.mp h, BitVec.toNat_ofNat] at hword; omega)
  rw [hv]
  rfl

theorem oamDmaCopy_quietPage {page : Byte} (hpage : page.toNat < 0x20 ∨ 0x40 < page.toNat) (s : State) :
    oamDmaCopy page (List.range 256) s =
      .ok () ((s.setPad s.pad).setOam (oamCopied s.ppu.oamAddr (pageByte s page) (List.range 256) s.ppu.oam)) :=
  oamDmaCopy_quiet page _ _ s fun _ hk o =>
    busRead_of_peek ((peek_setOam s o _).trans (peek_quietPage hpage (List.mem_range.mp hk) s))

/-- What page 0x40 supplies: the controller's bit at 0x4016 and 0x00 elsewhere. -/
def padPageByte (d : Pad) (k : Nat) : Byte := if k = 0x16 then (padRead d).1 else 0x00

theorem busRead_padPage {k : Nat} (hk : k < 256 ∧ k ≠ 0x16) (s : State) (d : Pad) :
    busRead (mkWord 0x40 (BitVec.ofNat 8 k)) s = .ok (padPageByte d k) s := by
  obtain ⟨hk, hne⟩ := hk
  have hword := pageByte_toNat 0x40 hk
  have h40 : (0x40 : Byte).toNat = 0x40 := rfl
  rw [padPageByte, if_neg hne, mkWord_page 0x40 hk]
  refine busRead_of_peek (peek_io (by omega) (by omega) (fun h => ?_) s)
  rw [h, BitVec.toNat_ofNat] at hword
  omega

theorem busRead_padPort (s : State) :
    busRead (mkWord 0x40 (BitVec.ofNat 8 0x16)) s = .ok (padRead s.pad).1 (s.setPad (padRead s.pad).2) := rfl

/-- The one controller read of page 0x40 stands between quiet reads. -/
theorem oamDmaCopy_padPage {l r : List Nat} (hl : ∀ k ∈ l, k < 256 ∧ k ≠ 0x16) (hr : ∀ k ∈ r, k < 256 ∧ k ≠ 0x16)
    (s : State) :
    oamDmaCopy 0x40 (l ++ 0x16 :: r) s =
      .ok () ((s.setPad (padRead s.pad).2).setOam
        (oamCopied s.ppu.oamAddr (padPageByte s.pad) (l ++ 0x16 :: r) s.ppu.oam)) := by
  rw [oamDmaCopy_append, oamDmaCopy_quiet 0x40 (padPageByte s.pad) l s fun k hk _ => busRead_padPage (hl k hk) _ _]
  dsimp only
  rw [oamDmaCopy, busRead_padPort]
  dsimp only
  rw [oamDmaCopy_quiet 0x40 (padPageByte s.pad) r _ fun k hk _ => busRead_padPage (hr k hk) _ _]
  simp only [oamCopied, List.foldl_append, List.foldl_cons]
  rfl

theorem range_padPage : List.range 256 = List.range 0x16 ++ 0x16 :: List.range' 0x17 0xE9 := by
  have hcons : List.range' 0x16 0xEA = 0x16 :: List.range' 0x17 0xE9 := List.range'_succ
  rw [← hcons, List.range_eq_range', List.range_eq_range']
  exact (List.range'_append_1 (s := 0) (m := 0x16) (n := 0xEA)).symm

theorem ppuRegister_eq_mod (a : Word) : ppuRegister a = a.toNat % 8 := toNat_and_mask a 3 7#16 rfl

/-- PPU register 0 has no read handler (R310). -/
theorem busRead_ppuRegister_zero {a : Word} (h : regionOf a = .ppu) (h0 : ppuRegister a = 0) (s : State) :
    busRead a s = .fatal { addr := a, dir := .read } s := by
  simp only [busRead, h, ppuRegRead, h0]

theorem busWrite_dma_ppuPage {page : Byte} (h : 0x20 ≤ page.toNat) (h' : page.toNat ≤ 0x3F) (s : State) :
    busWrite 0x4014 page s = .fatal { addr := BitVec.ofNat 16 (page.toNat * 256), dir := .read } s := by
  have hword := pageByte_toNat page (k := 0) (by omega)
  have hread := busRead_ppuRegister_zero (a := BitVec.ofNat 16 (page.toNat * 256 + 0))
    (regionOf_eq_ppu.mpr (by omega)) (by rw [ppuRegister_eq_mod]; omega) s
  rw [busWrite_dma, oamDma, List.range_eq_range', List.range'_succ, oamDmaCopy, mkWord_page page (by omega), hread,
    Nat.add_zero]

/-- Settles O39: each kind of page is one lemma about the copy. -/
theorem spriteDma : Obligations.SpriteDma := by
  intro page s
  refine ⟨fun hpage => ?_, ?_, fun h h' => busWrite_dma_ppuPage h h' s⟩
  · obtain ⟨t, hw, hoam, hrest⟩ := busWrite_dma_of_copy (oamDmaCopy_quietPage hpage s)
    refine ⟨t, hw, fun k hk => ?_, hrest⟩
    rw [hoam, oamCopied_page _ _ _ hk, ← mkWord_page page hk, peek_quietPage hpage hk]
  · rintro rfl
    have hcopy := oamDmaCopy_padPage (l := List.range 0x16) (r := List.range' 0x17 0xE9)
      (fun k hk => by have := List.mem_range.mp hk; omega) (fun k hk => by have := List.mem_range'_1.mp hk; omega) s
    rw [← range_padPage] at hcopy
    obtain ⟨t, hw, hoam, hrest⟩ := busWrite_dma_of_copy hcopy
    exact ⟨t, hw, fun k hk => by rw [hoam, oamCopied_page _ _ _ hk]; rfl, hrest⟩

end Sys2Proof.Machine
end

section
/-! The fetch as bus reads in order (30_encoding.md R120, R122; 20_memory.md R103). `fetchBytes` reads the bytes one by
one with whatever effects they have; the operand bytes are read with PC past the opcode and the stall cleared, which no
bus read sees, so the fetch and `fetchBytes` make the same reads. -/

namespace Sys2Proof.Machine

open Laws.EncodingLength (entryLength)

/-! ## Reading bytes in order -/

theorem fetchBytes_ok {a : Word} {n : Nat} {s u : State} {bytes : List Byte}
    (h : fetchBytes a (n + 1) s = .ok bytes u) :
    ∃ v rest t, bytes = v :: rest ∧ busRead a s = .ok v t ∧ fetchBytes (a + 1) n t = .ok rest u := by
  unfold fetchBytes at h
  split at h
  · cases h
  · next v t hr =>
    split at h
    · cases h
    · next rest w hf =>
      cases h
      exact ⟨v, rest, t, rfl, hr, hf⟩

theorem fetchBytes_fatal {a : Word} {n : Nat} {s u : State} {x : IoError} (h : fetchBytes a (n + 1) s = .fatal x u) :
    busRead a s = .fatal x u ∨ ∃ v t, busRead a s = .ok v t ∧ fetchBytes (a + 1) n t = .fatal x u := by
  unfold fetchBytes at h
  split at h
  · next hr =>
    cases h
    exact .inl hr
  · next v t hr =>
    split at h
    · next hf =>
      cases h
      exact .inr ⟨v, t, hr, hf⟩
    · cases h

/-- Bytes readable without a side effect are read so. -/
theorem fetchBytes_of_holdsBytes {s : State} {a : Word} {bytes : List Byte} (h : holdsBytes s a bytes = true) :
    fetchBytes a bytes.length s = .ok bytes s := by
  induction bytes generalizing a with
  | nil => rfl
  | cons v rest ih =>
    simp only [holdsBytes, Bool.and_eq_true, beq_iff_eq] at h
    obtain ⟨hv, hrest⟩ := h
    simp only [List.length_cons, fetchBytes, busRead_of_peek hv, ih hrest]

/-- The state between the opcode and the operand bytes: PC at the first of them, the stall cleared (R120). -/
def State.pastOpcode (s : State) (pc : Word) : State := (s.setPc pc).setDmaStall 0

theorem busRead_pastOpcode (a pc : Word) (s : State) :
    busRead a (s.pastOpcode pc) = (busRead a s).mapState (·.pastOpcode pc) := by
  unfold State.pastOpcode
  rw [busRead_setDmaStall, busRead_setPc]
  cases busRead a s <;> rfl

theorem fetchBytes_pastOpcode (a pc : Word) (n : Nat) (s : State) :
    fetchBytes a n (s.pastOpcode pc) = (fetchBytes a n s).mapState (·.pastOpcode pc) := by
  induction n generalizing a s with
  | zero => rfl
  | succ n ih =>
    unfold fetchBytes
    rw [busRead_pastOpcode]
    cases busRead a s with
    | fatal x t => rfl
    | ok v t =>
      simp only [Access.mapState, ih]
      cases fetchBytes (a + 1) n t <;> rfl

/-! ## The operand bytes of an entry -/

theorem fetchOperands_ok {op : Byte} {opPc : Word} {e : Entry} {s t : State} {rest : List Byte} {i : Instr}
    (he : opcodeEntry op = some e) (hd : decode (op :: rest) = .ok (i, []))
    (hf : fetchBytes s.pc rest.length s = .ok rest t) :
    fetchOperands op opPc e s = .instr i (t.setPc (s.pc + BitVec.ofNat 16 rest.length)) := by
  cases e with
  | f1 j =>
    simp only [decode, he, Except.ok.injEq, Prod.mk.injEq] at hd
    obtain ⟨rfl, rfl⟩ := hd
    cases hf
    simp [fetchOperands, State.setPc]
  | f2 make =>
    cases rest with
    | nil => simp [decode, he] at hd
    | cons b1 rest =>
      simp only [decode, he, Except.ok.injEq, Prod.mk.injEq] at hd
      obtain ⟨rfl, rfl⟩ := hd
      obtain ⟨_, _, t1, hb, h1, hf⟩ := fetchBytes_ok hf
      cases hb
      cases hf
      simp [fetchOperands, h1]
  | f3 make =>
    match rest with
    | [] => simp [decode, he] at hd
    | [_] => simp [decode, he] at hd
    | b1 :: b2 :: rest =>
      simp only [decode, he, Except.ok.injEq, Prod.mk.injEq] at hd
      obtain ⟨rfl, rfl⟩ := hd
      obtain ⟨_, _, t1, hb, h1, hf⟩ := fetchBytes_ok hf
      cases hb
      obtain ⟨_, _, t2, hb, h2, hf⟩ := fetchBytes_ok hf
      cases hb
      cases hf
      simp only [fetchOperands, h1, h2]
      rfl

theorem fetchOperands_fatal (op : Byte) (opPc : Word) {e : Entry} {s t : State} {x : IoError}
    (hf : fetchBytes s.pc (entryLength e - 1) s = .fatal x t) :
    fetchOperands op opPc e s = fetchHalted x (some op) opPc t := by
  cases e with
  | f1 i => cases hf
  | f2 make =>
    obtain h1 | ⟨v, t1, h1, hf⟩ := fetchBytes_fatal hf
    · simp only [fetchOperands, h1]
    · cases hf
  | f3 make =>
    obtain h1 | ⟨v, t1, h1, hf⟩ := fetchBytes_fatal hf
    · simp only [fetchOperands, h1]
    · obtain h2 | ⟨v, t2, h2, hf⟩ := fetchBytes_fatal hf
      · simp only [fetchOperands, h1, h2]
      · cases hf

/-- The opcode of an instruction has an entry of the instruction's length (R121, R122). -/
theorem entryLength_opcodeOf (i : Instr) : (opcodeEntry (opcodeOf i)).map entryLength = some i.length := by
  cases i <;> rfl

/-! ## The fetch -/

theorem fetch_defined {s t : State} {op : Byte} {e : Entry} (hr : busRead s.pc s = .ok op t)
    (he : opcodeEntry op = some e) : fetch s = fetchOperands op s.pc e (t.pastOpcode (s.pc + 1)) := by
  simp only [fetch, hr, he, State.pastOpcode]

/-- Bytes that decode are fetched as the instruction they decode to. -/
theorem fetch_of_decode {s u : State} {bytes : List Byte} {i : Instr} (hd : decode bytes = .ok (i, []))
    (hf : fetchBytes s.pc bytes.length s = .ok bytes u) :
    fetch s = .instr i ((u.setPc (s.pc + BitVec.ofNat 16 bytes.length)).setDmaStall 0) := by
  cases bytes with
  | nil => cases hd
  | cons op rest =>
    obtain ⟨_, _, t, hb, hr, hf⟩ := fetchBytes_ok hf
    cases hb
    cases he : opcodeEntry op with
    | none => simp [decode, he] at hd
    | some e =>
      have hrest : fetchBytes (s.pc + 1) rest.length (t.pastOpcode (s.pc + 1)) =
          .ok rest (u.pastOpcode (s.pc + 1)) := by
        rw [fetchBytes_pastOpcode, hf]
        rfl
      rw [fetch_defined hr he, fetchOperands_ok he hd hrest]
      have hpc : s.pc + 1 + BitVec.ofNat 16 rest.length = s.pc + BitVec.ofNat 16 (op :: rest).length := by
        rw [List.length_cons, BitVec.add_assoc, Nat.add_comm, BitVec.ofNat_add]
        rfl
      rw [← hpc]
      rfl

/-! ## The step -/

theorem cpuStep_of_fetch {s t : State} {i : Instr} (hf : fetch s = .instr i t) : cpuStep s = exec i t := by
  simp only [cpuStep, hf]

theorem step_of_cpuStep {s t : State} (hrun : s.run = .running) (h : cpuStep s = .next t) :
    step s = .next (chargeCycles t) := by
  simp only [step, hrun, h]

theorem chargeCycles_of_halted {s : State} {e : FatalError} (h : s.run = .halted e) : chargeCycles s = s := by
  rw [chargeCycles, h, if_neg (by simp)]

/-- A fetch that stops ends the step in the Halted state, and no scanline is charged (R391, R402). -/
theorem step_of_fetchHalted {s t : State} {x : IoError} {op : Option Byte} {pc : Word} (hrun : s.run = .running)
    (hf : fetch s = fetchHalted x op pc t) :
    step s = .next (t.setRun (.halted (.unrecognizedIoAccess x.addr x.dir op pc))) := by
  rw [step_of_cpuStep hrun (by rw [cpuStep, hf, fetchHalted]), chargeCycles_of_halted (State.halt_run ..)]
  rfl

/-- Settles O5: the fetch makes the bus reads of `fetchBytes`, and the step follows the fetch. -/
theorem stepRunsDecodedInstruction : Obligations.StepRunsDecodedInstruction := by
  refine ⟨fun s u bytes i hrun hd _ hf => ?_, fun s a bytes h => fetchBytes_of_holdsBytes h, fun s u x hrun hr => ?_,
    fun s u v op i x hrun hr hop hf => ?_⟩
  · obtain ⟨t, ht, -⟩ := exec_answers i ((u.setPc (s.pc + BitVec.ofNat 16 bytes.length)).setDmaStall 0)
    rw [ht]
    exact step_of_cpuStep hrun ((cpuStep_of_fetch (fetch_of_decode hd hf)).trans ht)
  · exact step_of_fetchHalted hrun (by simp only [fetch, hr])
  · obtain ⟨e, he, hlen⟩ := Option.map_eq_some_iff.mp (entryLength_opcodeOf i)
    rw [hop] at he
    have hrest : fetchBytes (s.pc + 1) (entryLength e - 1) (u.pastOpcode (s.pc + 1)) =
        .fatal x (v.pastOpcode (s.pc + 1)) := by
      rw [fetchBytes_pastOpcode, hlen, hf]
      rfl
    exact step_of_fetchHalted hrun ((fetch_defined hr he).trans (fetchOperands_fatal op s.pc hrest))

end Sys2Proof.Machine
end

section
/-! The undefined opcodes (30_encoding.md R126): the list is the values without a table entry, and a fetch of one stops
before any operand byte is read (R120). -/

namespace Sys2Proof.Machine

/-! ## The opcode table and the list of R126 -/

/-- Every byte value once, in order. -/
def allOpcodes : List Byte := (List.finRange 256).map BitVec.ofFin

theorem mem_allOpcodes (op : Byte) : op ∈ allOpcodes :=
  List.mem_map.mpr ⟨op.toFin, List.mem_finRange _, rfl⟩

theorem nodup_allOpcodes : allOpcodes.Nodup :=
  (List.nodup_finRange 256).map fun _ _ => congrArg BitVec.toFin

theorem undefinedOpcodes_eq_filter : undefinedOpcodes = allOpcodes.filter fun op => (opcodeEntry op).isNone := by
  decide

theorem nodup_undefinedOpcodes : undefinedOpcodes.Nodup := by
  rw [undefinedOpcodes_eq_filter]
  exact nodup_allOpcodes.filter _

theorem opcodeEntry_eq_none_iff {op : Byte} : opcodeEntry op = none ↔ op ∈ undefinedOpcodes := by
  simp only [undefinedOpcodes_eq_filter, List.mem_filter, mem_allOpcodes, true_and, Option.isNone_iff_eq_none]

theorem decode_of_no_entry {op : Byte} (he : opcodeEntry op = none) (rest : List Byte) :
    decode (op :: rest) = .error (.undefinedOpcode op) := by
  simp only [decode, he]

/-- An opcode with an entry gives an instruction or a string that is too short, never an undefined opcode. -/
theorem decode_ne_undefined_of_entry {op : Byte} {e : Entry} (he : opcodeEntry op = some e) (rest : List Byte) :
    decode (op :: rest) ≠ .error (.undefinedOpcode op) := by
  cases e with
  | f1 i => simp [decode, he]
  | f2 make => cases rest <;> simp [decode, he]
  | f3 make => match rest with
    | [] | [_] | _ :: _ :: _ => simp [decode, he]

theorem decode_undefined_iff (op : Byte) (rest : List Byte) :
    decode (op :: rest) = .error (.undefinedOpcode op) ↔ opcodeEntry op = none := by
  cases he : opcodeEntry op with
  | none => exact iff_of_true (decode_of_no_entry he rest) rfl
  | some e => exact iff_of_false (decode_ne_undefined_of_entry he rest) nofun

/-! ## The step -/

/-- An undefined opcode stops the fetch with PC past it (R120). -/
theorem fetch_undefined {s u : State} {op : Byte} (hr : busRead s.pc s = .ok op u) (he : opcodeEntry op = none) :
    fetch s = .stopped ((u.setPc (s.pc + 1)).halt (.invalidOpcode op s.pc)) := by
  simp only [fetch, hr, he]

/-- A fetch that halts the machine ends the step there, and no scanline is charged (R391, R402). -/
theorem step_of_fetch_stopped {s t : State} {e : FatalError} (hrun : s.run = .running)
    (hf : fetch s = .stopped (t.halt e)) : step s = .next (t.halt e) := by
  have hcpu : cpuStep s = .next (t.halt e) := by simp only [cpuStep, hf]
  rw [step_of_cpuStep hrun hcpu, chargeCycles_of_halted (State.halt_run t e)]

/-- Settles O4: the list is where the opcode table has no entry, and decoding and the fetch both refuse there. -/
theorem undefinedOpcodeHalts : Obligations.UndefinedOpcodeHalts :=
  ⟨rfl, nodup_undefinedOpcodes, fun op rest => (decode_undefined_iff op rest).trans opcodeEntry_eq_none_iff,
    fun _ _ _ hrun hop hr => step_of_fetch_stopped hrun (fetch_undefined hr (opcodeEntry_eq_none_iff.mpr hop))⟩

end Sys2Proof.Machine
end

section
/-! The addressing modes as numbers (40_addressing_modes.md R144 to R154): an index added in 8 bits stays in page zero, one
added in 16 bits wraps at 0xFFFF, and a page-zero pointer is two bus reads that change nothing. -/

namespace Sys2Proof.Machine

/-! ## An index added to an address -/

theorem zeroPageIndexed_toNat (b v : Byte) : (zext16 (b + v)).toNat = (b.toNat + v.toNat) % 256 := by
  rw [zext16_toNat, BitVec.toNat_add]

theorem wordIndexed_toNat (w : Word) (v : Byte) : (w + zext16 v).toNat = (w.toNat + v.toNat) % 65536 := by
  rw [BitVec.toNat_add, zext16_toNat]

theorem pagesDiffer_wordIndexed_iff (w : Word) (v : Byte) :
    pagesDiffer w (w + zext16 v) = true ↔ w.toNat / 256 ≠ (w.toNat + v.toNat) % 65536 / 256 := by
  rw [pagesDiffer_iff, wordIndexed_toNat]

/-- Settles O8: each direct mode is an operand, or one index added to it in 8 or in 16 bits. -/
theorem directModeAddresses : Obligations.DirectModeAddresses := fun s b w =>
  ⟨zext16_toNat b, zeroPageIndexed_toNat b s.x, zeroPageIndexed_toNat b s.y,
    rfl, wordIndexed_toNat w s.x, wordIndexed_toNat w s.y,
    rfl, rfl, rfl, rfl, pagesDiffer_wordIndexed_iff w s.x, pagesDiffer_wordIndexed_iff w s.y⟩

/-! ## The pointer in page zero -/

theorem busRead_zeroPage (b : Byte) (s : State) :
    busRead (BitVec.ofNat 16 b.toNat) s = .ok (s.ram.read b.toNat) s := by
  rw [BitVec.ofNat_toNat]
  exact zeroPage_is_busRead b s

/-- The pointer at `b` is the byte at `b` and the byte at the address after it modulo 256, read through the bus with the
state unchanged. -/
theorem zeroPagePointer_is_busReads (b : Byte) (s : State) :
    ∃ lo hi, busRead (BitVec.ofNat 16 b.toNat) s = .ok lo s ∧
      busRead (BitVec.ofNat 16 ((b.toNat + 1) % 256)) s = .ok hi s ∧ zeroPagePointer b s = mkWord hi lo :=
  ⟨_, _, busRead_zeroPage b s, BitVec.toNat_add b 1 ▸ busRead_zeroPage (b + 1) s, rfl⟩

/-- Settles O9: IndirectPreX takes the pointer at `b + X`, IndirectPostY adds Y to the pointer at `b`. -/
theorem indirectModeAddresses : Obligations.IndirectModeAddresses := by
  refine fun s b => ⟨?_, ?_⟩
  · obtain ⟨lo, hi, hlo, hhi, hp⟩ := zeroPagePointer_is_busReads (b + s.x) s
    rw [BitVec.toNat_add] at hlo hhi
    rw [Nat.mod_add_mod] at hhi
    exact ⟨lo, hi, hlo, hhi, by rw [MemMode.ea, hp, mkWord_toNat], rfl⟩
  · obtain ⟨lo, hi, hlo, hhi, hp⟩ := zeroPagePointer_is_busReads b s
    have hpage : (mkWord hi lo).toNat / 256 = hi.toNat := by rw [← hiByte_toNat, hiByte_mkWord]
    refine ⟨lo, hi, hlo, hhi, ?_, ?_⟩
    · rw [MemMode.ea, hp, wordIndexed_toNat, mkWord_toNat]
    · rw [MemMode.crossed, hp, pagesDiffer_wordIndexed_iff, hpage, mkWord_toNat]

/-! ## The branch target -/

/-- Settles O10: a displacement from 0x80 up is sign-extended to `d + 0xFF00`, which is `d - 256` modulo 65536. -/
theorem branchTargets : Obligations.BranchTargets := by
  intro d next
  rw [branchTarget, BitVec.toNat_add, sext16_toNat]
  split <;> omega

end Sys2Proof.Machine
end

section
/-! The register transfers (41_load_store_transfer.md R166 to R169 and R171): implied instructions, which always complete,
so each is its opcode and the state its operation gives. -/

namespace Sys2Proof.Machine

/-! ## Forms without a memory operand -/

/-- What ends in `finish` completes; the cost it charges is the model's own field (log 7). -/
theorem completesIn_of_exec_eq_finish {i : Instr} {n : Nat} {s t : State} (h : exec i s = finish i n t) :
    CompletesIn i s t :=
  ⟨_, h⟩

/-- An instruction of the implied shape makes no access that could halt it. -/
theorem plainFormRuns_of_execImplied {i : Instr} {bytes : List Byte} {op : State → State}
    (hbytes : encode i = bytes) (hexec : ∀ s, exec i s = execImplied i op s) : PlainFormRuns i bytes op :=
  ⟨hbytes, fun s => completesIn_of_exec_eq_finish (hexec s)⟩

/-! ## The transfers -/

/-- Settles O14: each transfer is an implied instruction with its opcode. -/
theorem transfers : Obligations.Transfers :=
  ⟨plainFormRuns_of_execImplied (op := taxOp) rfl exec_tax, plainFormRuns_of_execImplied (op := tayOp) rfl exec_tay,
    plainFormRuns_of_execImplied (op := tsxOp) rfl exec_tsx, plainFormRuns_of_execImplied (op := txaOp) rfl exec_txa,
    plainFormRuns_of_execImplied (op := tyaOp) rfl exec_tya⟩

end Sys2Proof.Machine
end

section
/-! The stack (42_stack.md R180, R181, R183, R184, R186, R187): the two primitives as bus accesses at `0x0100 + S`, and
what a pop returns after a push. -/

namespace Sys2Proof.Machine

/-! ## The primitives on the bus -/

theorem stackAddress_eq_ofNat (sp : Byte) : 0x0100#16 + zext16 sp = BitVec.ofNat 16 (0x0100 + sp.toNat) := by
  rw [← stackAddress_toNat, BitVec.ofNat_toNat, BitVec.setWidth_eq]

theorem sp_sub_one_eq_ofNat (sp : Byte) : sp - 1 = BitVec.ofNat 8 (sp.toNat + 255) := by
  bv_omega

theorem sp_add_one_eq_ofNat (sp : Byte) : sp + 1 = BitVec.ofNat 8 (sp.toNat + 1) := by
  bv_omega

/-- Settles O15: `push_is_busWrite` and `pop_is_busRead`, with the address and the new S as numbers. -/
theorem pushAndPopPrimitives : Obligations.PushAndPopPrimitives := by
  refine ⟨fun v s => ⟨(push v s).setSp s.sp, ?_, ?_⟩, fun s => ⟨(pop s).2, (pop s).1, ?_, ?_, rfl⟩⟩
  · rw [← stackAddress_eq_ofNat]
    exact push_is_busWrite v s
  · rw [← sp_sub_one_eq_ofNat]
    rfl
  · rw [← sp_add_one_eq_ofNat]
    rfl
  · rw [← stackAddress_eq_ofNat]
    exact pop_is_busRead s

/-! ## A pop after a push -/

theorem pop_push_value (v : Byte) (s : State) : (pop (push v s)).1 = v := by
  rw [pop_value, push_sp, BitVec.sub_add_cancel, push_ram, Memory.read_write_same]

theorem pop_push_sp (v : Byte) (s : State) : (pop (push v s)).2.sp = s.sp := by
  rw [pop_sp, push_sp, BitVec.sub_add_cancel]

/-! ## The 16-bit push and pop -/

@[simp] theorem push16_sp (w : Word) (s : State) : (push16 w s).sp = s.sp - 1 - 1 := rfl

theorem push16_ram (w : Word) (s : State) :
    (push16 w s).ram = (s.ram.write (stackIndex s.sp) (hiByte w)).write (stackIndex (s.sp - 1)) (loByte w) := rfl

theorem stackIndex_ne_stackIndex_sub_one (sp : Byte) : stackIndex sp ≠ stackIndex (sp - 1) := by
  rw [Ne, stackIndex_inj]
  bv_omega

/-- The low byte is stored last, one slot below the old S; S - 1 is 0xFF for S = 0x00 (R180, R186). -/
theorem push16_read_low (w : Word) (s : State) : (push16 w s).ram.read (stackIndex (s.sp - 1)) = loByte w := by
  rw [push16_ram, Memory.read_write_same]

/-- The high byte is stored first, at the old S, and the low byte does not reach it. -/
theorem push16_read_high (w : Word) (s : State) : (push16 w s).ram.read (stackIndex s.sp) = hiByte w := by
  rw [push16_ram, Memory.read_write_other (stackIndex_ne_stackIndex_sub_one s.sp), Memory.read_write_same]

@[simp] theorem pop16_sp (s : State) : (pop16 s).2.sp = s.sp + 1 + 1 := rfl

theorem pop16_value (s : State) :
    (pop16 s).1 = mkWord (s.ram.read (stackIndex (s.sp + 1 + 1))) (s.ram.read (stackIndex (s.sp + 1))) := rfl

theorem pop16_push16_value (w : Word) (s : State) : (pop16 (push16 w s)).1 = w := by
  rw [pop16_value, push16_sp, BitVec.sub_add_cancel, BitVec.sub_add_cancel, push16_read_high, push16_read_low,
    mkWord_hi_lo]

theorem pop16_push16_sp (w : Word) (s : State) : (pop16 (push16 w s)).2.sp = s.sp := by
  rw [pop16_sp, push16_sp, BitVec.sub_add_cancel, BitVec.sub_add_cancel]

theorem peek_push16_high (w : Word) (s : State) : peek (push16 w s) (stackAddress s 0) = some (hiByte w) := by
  rw [peek_stackAddress, BitVec.sub_zero, push16_read_high]

theorem peek_push16_low (w : Word) (s : State) : peek (push16 w s) (stackAddress s 1) = some (loByte w) :=
  (peek_stackAddress _ s 1).trans (congrArg some (push16_read_low w s))

/-- Settles O16: S returns because its 8-bit decrements and increments cancel, and the two slots differ for every S. -/
theorem stackRoundTrips : Obligations.StackRoundTrips := fun s v w =>
  ⟨pop_push_value v s, pop_push_sp v s, pop16_push16_value w s, pop16_push16_sp w s, peek_push16_high w s,
    peek_push16_low w s⟩

/-! ## PHP and PLA -/

/-- Settles O17: both are implied instructions with their opcodes, and PHP pushes `statusForBreak` of P. -/
theorem stackStatusAndPull : Obligations.StackStatusAndPull :=
  ⟨plainFormRuns_of_execImplied (op := phpOp) rfl exec_php, plainFormRuns_of_execImplied (op := plaOp) rfl exec_pla⟩

end Sys2Proof.Machine
end

section
/-! Arithmetic (43_arithmetic_logic.md R190 to R192, R197, R203 to R207): N and Z, ADC, SBC as ADC of the complemented
operand, Compare and the register increments. A flag computation is a chain of `putFlag`, so a field of its result is
the last value written to it, and the bits outside the written ones are `FlagsKept`. -/

namespace Sys2Proof.Machine

/-! ## N and Z -/

@[simp] theorem getFlag_z_setNZ (v p : Byte) : getFlag .z (setNZ v p) = (v == 0) := by
  rw [setNZ, getFlag_putFlag_other (by decide), getFlag_putFlag_same]

@[simp] theorem getFlag_n_setNZ (v p : Byte) : getFlag .n (setNZ v p) = v.getLsbD 7 := by
  rw [setNZ, getFlag_putFlag_same, bitOf]

theorem getFlag_setNZ_other {f : Flag} (hz : f ≠ .z) (hn : f ≠ .n) (v p : Byte) :
    getFlag f (setNZ v p) = getFlag f p := by
  rw [setNZ, getFlag_putFlag_other hn, getFlag_putFlag_other hz]

/-- Settles O11: Z is written first and N after it, and each write leaves the other fields. -/
theorem setNZWritesZeroAndSign : Obligations.SetNZWritesZeroAndSign := fun v p =>
  ⟨getFlag_z_setNZ v p, getFlag_n_setNZ v p, fun _ hz hn => getFlag_setNZ_other hz hn v p⟩

/-! ## INX, INY, DEX, DEY -/

/-- Settles O25: each is an implied instruction with its opcode. -/
theorem registerIncrements : Obligations.RegisterIncrements :=
  ⟨plainFormRuns_of_execImplied (op := inxOp) rfl exec_inx, plainFormRuns_of_execImplied (op := inyOp) rfl exec_iny,
    plainFormRuns_of_execImplied (op := dexOp) rfl exec_dex, plainFormRuns_of_execImplied (op := deyOp) rfl exec_dey⟩

/-! ## ADC -/

theorem carryIn_le_one (p : Byte) : carryIn p ≤ 1 := Bool.toNat_le _

theorem adcResult_toNat (a m p : Byte) : (adcResult a m p).toNat = (a.toNat + m.toNat + carryIn p) % 256 := by
  rw [adcResult, BitVec.toNat_ofNat]

theorem getFlag_c_adcFlags (a m p : Byte) :
    getFlag .c (adcFlags a m p) = decide (255 < a.toNat + m.toNat + carryIn p) := by
  rw [adcFlags, getFlag_setNZ_other (by decide) (by decide), getFlag_putFlag_other (by decide), getFlag_putFlag_same]

/-- The mask 0x80 selects the sign bit. -/
theorem decide_and_signMask_ne_zero (x : Byte) : decide (x &&& 0x80 ≠ 0) = x.msb := by
  rw [show (0x80 : Byte) = BitVec.twoPow 8 7 from rfl, BitVec.and_twoPow, ← BitVec.msb_eq_getLsbD_last]
  cases x.msb <;> rfl

/-- V of ADC: the result differs in sign from both operands (R191). -/
theorem getFlag_v_adcFlags (a m p : Byte) :
    getFlag .v (adcFlags a m p) =
      ((a.msb ^^ (adcResult a m p).msb) && (m.msb ^^ (adcResult a m p).msb)) := by
  rw [adcFlags, getFlag_setNZ_other (by decide) (by decide), getFlag_putFlag_same, decide_and_signMask_ne_zero,
    BitVec.msb_and, BitVec.msb_xor, BitVec.msb_xor]

/-- Two operands of one sign have a sum of the other sign in 8 bits exactly when the sum in integers is out of range. -/
theorem getFlag_v_adcFlags_iff (a m p : Byte) :
    getFlag .v (adcFlags a m p) = true ↔
      a.toInt + m.toInt + carryIn p < -128 ∨ 127 < a.toInt + m.toInt + carryIn p := by
  have hr := adcResult_toNat a m p
  have hc := carryIn_le_one p
  rw [getFlag_v_adcFlags]
  simp only [BitVec.msb_eq_decide, BitVec.toInt_eq_toNat_cond, Bool.and_eq_true, bne_iff_ne, ne_eq, decide_eq_decide]
  split <;> split <;> omega

/-! ## SBC -/

theorem toInt_not_eq_neg_sub_one (m : Byte) : (~~~m).toInt = -m.toInt - 1 := by
  simp only [BitVec.toInt_eq_toNat_cond, BitVec.toNat_not]
  split <;> split <;> omega

/-- The difference and the sum with the complement 255 - m are 256 apart. -/
theorem sbcDifference_add_256 (a m p : Byte) :
    sbcDifference a m p + 256 = (a.toNat : Int) + (~~~m).toNat + carryIn p := by
  rw [sbcDifference, BitVec.toNat_not]
  omega

theorem sbcResult_eq_adcResult_not (a m p : Byte) : sbcResult a m p = adcResult a (~~~m) p := by
  have hd := sbcDifference_add_256 a m p
  apply BitVec.eq_of_toNat_eq
  rw [adcResult_toNat, sbcResult, BitVec.toNat_ofInt]
  omega

theorem sbcFlags_eq_adcFlags_not (a m p : Byte) : sbcFlags a m p = adcFlags a (~~~m) p := by
  have hd := sbcDifference_add_256 a m p
  have hc : decide (0 ≤ sbcDifference a m p) = decide (0xFF < a.toNat + (~~~m).toNat + carryIn p) := by
    rw [decide_eq_decide]
    omega
  have hv : ∀ r : Byte, decide ((a ^^^ m) &&& (a ^^^ r) &&& 0x80 ≠ 0) =
      decide ((a ^^^ r) &&& (~~~m ^^^ r) &&& 0x80 ≠ 0) := fun r => by
    simp only [decide_and_signMask_ne_zero, BitVec.msb_and, BitVec.msb_xor, BitVec.msb_not]
    cases a.msb <;> cases m.msb <;> cases r.msb <;> rfl
  rw [sbcFlags, adcFlags, sbcResult_eq_adcResult_not, hc, hv]

theorem sbcResult_toNat (a m p : Byte) :
    ((sbcResult a m p).toNat : Int) = ((a.toNat : Int) - m.toNat - (1 - carryIn p)) % 256 := by
  rw [sbcResult, BitVec.toNat_ofInt, sbcDifference]
  omega

/-- No borrow in the difference is a carry out of the sum with the complement. -/
theorem getFlag_c_sbcFlags (a m p : Byte) :
    getFlag .c (sbcFlags a m p) = decide (m.toNat + 1 ≤ a.toNat + carryIn p) := by
  rw [sbcFlags_eq_adcFlags_not, getFlag_c_adcFlags, BitVec.toNat_not, decide_eq_decide]
  omega

/-- The complement is -m - 1 in two's complement, so the sum is the difference in integers too. -/
theorem getFlag_v_sbcFlags_iff (a m p : Byte) :
    getFlag .v (sbcFlags a m p) = true ↔
      a.toInt - m.toInt - (1 - carryIn p) < -128 ∨ 127 < a.toInt - m.toInt - (1 - carryIn p) := by
  have h : a.toInt + (~~~m).toInt + carryIn p = a.toInt - m.toInt - (1 - carryIn p) := by
    rw [toInt_not_eq_neg_sub_one]
    omega
  rw [sbcFlags_eq_adcFlags_not, getFlag_v_adcFlags_iff, h]

/-- Settles O20: C and V of ADC say that the unsigned and the signed sum leave the byte, and SBC is ADC of the complement. -/
theorem addSubtractFlags : Obligations.AddSubtractFlags := fun a m p =>
  ⟨adcResult_toNat a m p, getFlag_c_adcFlags a m p, getFlag_v_adcFlags_iff a m p,
    sbcResult_toNat a m p, getFlag_c_sbcFlags a m p, getFlag_v_sbcFlags_iff a m p,
    getFlag_z_setNZ _ _, getFlag_n_setNZ _ _, getFlag_z_setNZ _ _, getFlag_n_setNZ _ _,
    adcFlags_kept a m p, sbcResult_eq_adcResult_not a m p, sbcFlags_eq_adcFlags_not a m p⟩

/-! ## Compare -/

/-- The 16-bit difference of two bytes stays below 0x100 exactly when it does not borrow. -/
theorem zext16_sub_zext16_lt_iff (r m : Byte) : zext16 r - zext16 m < 0x100#16 ↔ m.toNat ≤ r.toNat := by
  rw [BitVec.lt_def, BitVec.toNat_sub, zext16_toNat, zext16_toNat, BitVec.toNat_ofNat]
  omega

/-- The low byte of the 16-bit difference is the 8-bit difference. -/
theorem loByte_zext16_sub_zext16 (r m : Byte) : loByte (zext16 r - zext16 m) = r - m := by
  apply BitVec.eq_of_toNat_eq
  rw [loByte_toNat, BitVec.toNat_sub, zext16_toNat, zext16_toNat, BitVec.toNat_sub]
  omega

theorem compareFlags_eq (r m p : Byte) :
    compareFlags r m p = setNZ (r - m) (putFlag .c (decide (m.toNat ≤ r.toNat)) p) := by
  rw [compareFlags, loByte_zext16_sub_zext16, decide_eq_decide.mpr (zext16_sub_zext16_lt_iff r m)]

theorem getFlag_c_compareFlags (r m p : Byte) : getFlag .c (compareFlags r m p) = decide (m.toNat ≤ r.toNat) := by
  rw [compareFlags_eq, getFlag_setNZ_other (by decide) (by decide), getFlag_putFlag_same]

/-- The 8-bit difference is zero for equal bytes only. -/
theorem getFlag_z_compareFlags (r m p : Byte) : getFlag .z (compareFlags r m p) = decide (r = m) := by
  rw [compareFlags_eq, getFlag_z_setNZ, beq_eq_decide, decide_eq_decide]
  exact sub_eq_zero

theorem getFlag_n_compareFlags (r m p : Byte) : getFlag .n (compareFlags r m p) = (r - m).getLsbD 7 := by
  rw [compareFlags_eq, getFlag_n_setNZ]

/-- Settles O23: the 16-bit temporary of Compare gives the order by its high byte and N and Z by its low byte. -/
theorem compareOrders : Obligations.CompareOrders := fun r m p =>
  ⟨getFlag_c_compareFlags r m p, getFlag_z_compareFlags r m p, getFlag_n_compareFlags r m p, compareFlags_kept r m p⟩

end Sys2Proof.Machine
end

section
/-! The branches (45_control_flow.md R240 to R248): one rule for `execBranch`, read once with the condition "the flag is
set" and once with "the flag is clear". -/

namespace Sys2Proof.Machine

/-! ## Branch -/

/-- What ends in `execBranch` completes: PC is the target where the branch is taken, and the state is the same where it
is not. The page crossing affects the cost field only (R240, log 7). -/
theorem completesIn_of_exec_eq_execBranch {i : Instr} {d : Byte} {taken : Bool} {s : State}
    (h : exec i s = execBranch i d taken s) :
    CompletesIn i s (if taken then s.setPc (s.pc + sext16 d) else s) :=
  completesIn_of_exec_eq_finish h

/-- A branch that is taken when the flag `f` is set. -/
theorem plainFormRuns_of_branchIfSet {i : Instr} {bytes : List Byte} {d : Byte} {f : Flag} (hbytes : encode i = bytes)
    (hexec : ∀ s, exec i s = execBranch i d (getFlag f s.p) s) :
    PlainFormRuns i bytes (fun s => if getFlag f s.p = true then s.setPc (s.pc + sext16 d) else s) :=
  ⟨hbytes, fun s => completesIn_of_exec_eq_execBranch (hexec s)⟩

/-- A branch that is taken when the flag `f` is clear. -/
theorem plainFormRuns_of_branchIfClear {i : Instr} {bytes : List Byte} {d : Byte} {f : Flag}
    (hbytes : encode i = bytes) (hexec : ∀ s, exec i s = execBranch i d (!getFlag f s.p) s) :
    PlainFormRuns i bytes (fun s => if getFlag f s.p = false then s.setPc (s.pc + sext16 d) else s) := by
  refine ⟨hbytes, fun s => ?_⟩
  simpa only [Bool.not_eq_true'] using completesIn_of_exec_eq_execBranch (hexec s)

/-- Settles O29: each branch has its opcode, and its condition is that one flag is set or that it is clear. -/
theorem branches : Obligations.Branches :=
  ⟨fun d => plainFormRuns_of_branchIfClear rfl (exec_bcc · d),
    fun d => plainFormRuns_of_branchIfSet rfl (exec_bcs · d),
    fun d => plainFormRuns_of_branchIfSet rfl (exec_beq · d),
    fun d => plainFormRuns_of_branchIfSet rfl (exec_bmi · d),
    fun d => plainFormRuns_of_branchIfClear rfl (exec_bne · d),
    fun d => plainFormRuns_of_branchIfClear rfl (exec_bpl · d),
    fun d => plainFormRuns_of_branchIfClear rfl (exec_bvc · d),
    fun d => plainFormRuns_of_branchIfSet rfl (exec_bvs · d)⟩

end Sys2Proof.Machine
end

section
/-! The flag instructions (46_flags_misc.md R250, R251, R253, R255, R256): a field of P is cleared by the mask without its
bit and set by the mask of its bit alone. -/

namespace Sys2Proof.Machine

/-! ## One field of P as a mask -/

theorem putFlag_false (f : Flag) (p : Byte) : putFlag f false p = p &&& ~~~(1#8 <<< f.bit) := rfl

theorem putFlag_true (f : Flag) (p : Byte) : putFlag f true p = p ||| (1#8 <<< f.bit) := rfl

/-- An implied instruction that clears the flag `f`. -/
theorem plainFormRuns_of_clearFlag {i : Instr} {bytes : List Byte} {mask : Byte} (f : Flag) (hbytes : encode i = bytes)
    (hexec : ∀ s, exec i s = execImplied i (fun t => t.setP (putFlag f false t.p)) s)
    (hmask : ~~~(1#8 <<< f.bit) = mask) : PlainFormRuns i bytes (fun s => s.setP (s.p &&& mask)) := by
  simpa only [putFlag_false, hmask] using plainFormRuns_of_execImplied hbytes hexec

/-- An implied instruction that sets the flag `f`. -/
theorem plainFormRuns_of_setFlag {i : Instr} {bytes : List Byte} {mask : Byte} (f : Flag) (hbytes : encode i = bytes)
    (hexec : ∀ s, exec i s = execImplied i (fun t => t.setP (putFlag f true t.p)) s)
    (hmask : 1#8 <<< f.bit = mask) : PlainFormRuns i bytes (fun s => s.setP (s.p ||| mask)) := by
  simpa only [putFlag_true, hmask] using plainFormRuns_of_execImplied hbytes hexec

/-- Settles O30: each is an implied instruction with its opcode, and its mask is that of the bit position of its flag
(R23). -/
theorem flagInstructions : Obligations.FlagInstructions :=
  ⟨plainFormRuns_of_clearFlag .c rfl exec_clc (by decide), plainFormRuns_of_clearFlag .d rfl exec_cld (by decide),
    plainFormRuns_of_clearFlag .v rfl exec_clv (by decide), plainFormRuns_of_setFlag .c rfl exec_sec (by decide),
    plainFormRuns_of_setFlag .d rfl exec_sed (by decide)⟩

end Sys2Proof.Machine
end

section
/-! The PPU registers (50_ppu_registers.md R316 to R320, R322, R326, R327): the carry chain of the counters as an addition
to their 15-bit value, the two writes of a pair at PPUSCROLL and PPUADDR in numbers, and the OAMDATA and PPUDATA writes
at every mirror. -/

namespace Sys2Proof.Machine

/-! ## The carry chain of the counters -/

/-- One link of the chain: with the counter `x` of weight `w` one further in `d`, and the carry out of it worth
`2 ^ n * w`, the position is `w` further. -/
theorem bits_of_carry {n w : Nat} {x : BitVec n} {c d : Scroll} {carry : Scroll → Scroll}
    (hcarry : (carry d).bits.toNat = (d.bits.toNat + 2 ^ n * w) % 0x8000)
    (hd : d.bits.toNat + x.toNat * w = c.bits.toNat + (x + 1).toNat * w) :
    (if x + 1 = 0 then carry d else d).bits.toNat = (c.bits.toNat + w) % 0x8000 := by
  have hsum : (x + 1).toNat = (x.toNat + 1) % 2 ^ n := by simp
  obtain hlt | hmax : x.toNat + 1 < 2 ^ n ∨ x.toNat + 1 = 2 ^ n := Nat.lt_or_eq_of_le (Nat.succ_le_of_lt x.isLt)
  · have hstep : (x + 1).toNat = x.toNat + 1 := hsum.trans (Nat.mod_eq_of_lt hlt)
    have hstay : x + 1 ≠ 0 := fun h => by rw [h] at hstep; simp at hstep
    have hdw : d.bits.toNat = c.bits.toNat + w := by
      rw [hstep, Nat.succ_mul] at hd
      omega
    rw [if_neg hstay, ← hdw, Nat.mod_eq_of_lt d.bits.isLt]
  · have hwrap : x + 1 = 0 := BitVec.eq_of_toNat_eq (by rw [hsum, hmax]; simp)
    have hdw : d.bits.toNat + 2 ^ n * w = c.bits.toNat + w := by
      rw [hwrap] at hd
      rw [← hmax, Nat.succ_mul, ← Nat.add_assoc, hd]
      simp
    rw [if_pos hwrap, hcarry, hdw]

/-- A one-bit counter steps by its complement. -/
theorem xor_one_eq_add_one (b : BitVec 1) : b ^^^ 1 = b + 1 := by
  revert b
  decide

theorem incFV_bits_toNat (c : Scroll) : (incFV c).bits.toNat = (c.bits.toNat + 0x1000) % 0x8000 := by
  simp only [incFV, Scroll.bits_toNat]
  bv_omega

theorem incV_bits_toNat (c : Scroll) : (incV c).bits.toNat = (c.bits.toNat + 0x800) % 0x8000 := by
  simp only [incV, xor_one_eq_add_one]
  exact bits_of_carry (incFV_bits_toNat _) (by simp only [Scroll.bits_toNat]; omega)

theorem incH_bits_toNat (c : Scroll) : (incH c).bits.toNat = (c.bits.toNat + 0x400) % 0x8000 := by
  simp only [incH, xor_one_eq_add_one]
  exact bits_of_carry (incV_bits_toNat _) (by simp only [Scroll.bits_toNat]; omega)

theorem incVT_bits_toNat (c : Scroll) : (incVT c).bits.toNat = (c.bits.toNat + 32) % 0x8000 :=
  bits_of_carry (incH_bits_toNat _) (by simp only [Scroll.bits_toNat]; omega)

theorem incHT_bits_toNat (c : Scroll) : (incHT c).bits.toNat = (c.bits.toNat + 1) % 0x8000 :=
  bits_of_carry (incVT_bits_toNat _) (by simp only [Scroll.bits_toNat]; omega)

/-- Settles O43: PPUCTRL bit 2 chooses where the carry chain starts. -/
theorem counterIncrement : Obligations.CounterIncrement := by
  refine fun p => ⟨?_, rfl⟩
  unfold incrementScrollCounters bitOf
  cases p.ctrl.getLsbD 2 with
  | true => exact incVT_bits_toNat p.cnt
  | false => exact incHT_bits_toNat p.cnt

/-! ## OAMDATA and PPUDATA at every mirror -/

/-- Settles O40: the low three bits of a PPU-port address select the handler (R75, R311). -/
theorem oamDataAndPpuDataWrites : Obligations.OamDataAndPpuDataWrites := by
  intro a v s h h'
  have hport : busWrite a v s = ppuRegWrite a v s := by rw [busWrite, regionOf_eq_ppu.mpr ⟨h, h'⟩]
  simp only [hport, ppuRegWrite, ppuRegister_eq_mod]
  exact ⟨fun hr => by rw [hr]; rfl, fun hr => by rw [hr]; rfl⟩

/-! ## The bit fields of a written byte -/

theorem extractLsb'_eq_ofNat {n : Nat} (v : BitVec n) (k m : Nat) :
    v.extractLsb' k m = BitVec.ofNat m (v.toNat / 2 ^ k) := by
  rw [BitVec.extractLsb', Nat.shiftRight_eq_div_pow]

theorem append_eq_ofNat {m n : Nat} (a : BitVec m) (b : BitVec n) :
    a ++ b = BitVec.ofNat (m + n) (a.toNat * 2 ^ n + b.toNat) := by
  have h : (a ++ b).toNat = a.toNat * 2 ^ n + b.toNat := by
    rw [BitVec.toNat_append, ← Nat.shiftLeft_add_eq_or_of_lt b.isLt, Nat.shiftLeft_eq]
  rw [← h, BitVec.ofNat_toNat, BitVec.setWidth_eq]

theorem addrHigh_eq (v : Byte) (r : Scroll) :
    addrHigh v r =
      { r with
        fv := BitVec.ofNat 3 (v.toNat / 16 % 4)
        v := BitVec.ofNat 1 (v.toNat / 8)
        h := BitVec.ofNat 1 (v.toNat / 4)
        vt := BitVec.ofNat 5 (v.toNat % 4 * 8 + r.vt.toNat % 8) } := by
  have hfv : (v.extractLsb' 4 2).setWidth 3 = BitVec.ofNat 3 (v.toNat / 16 % 4) := by
    rw [extractLsb'_eq_ofNat, ← BitVec.ofNat_toNat, BitVec.toNat_ofNat]
    rfl
  have hvt : v.extractLsb' 0 2 ++ r.vt.extractLsb' 0 3 = BitVec.ofNat 5 (v.toNat % 4 * 8 + r.vt.toNat % 8) := by
    rw [append_eq_ofNat, extractLsb'_eq_ofNat, extractLsb'_eq_ofNat, BitVec.toNat_ofNat, BitVec.toNat_ofNat,
      Nat.pow_zero, Nat.div_one, Nat.div_one]
    rfl
  rw [addrHigh, hfv, hvt, extractLsb'_eq_ofNat, extractLsb'_eq_ofNat]
  rfl

theorem addrLow_eq (v : Byte) (r : Scroll) :
    addrLow v r =
      { r with
        vt := BitVec.ofNat 5 (r.vt.toNat / 8 * 8 + v.toNat / 32)
        ht := BitVec.ofNat 5 v.toNat } := by
  have hvt : r.vt.extractLsb' 3 2 ++ v.extractLsb' 5 3 = BitVec.ofNat 5 (r.vt.toNat / 8 * 8 + v.toNat / 32) := by
    rw [append_eq_ofNat, extractLsb'_eq_ofNat, extractLsb'_eq_ofNat, BitVec.toNat_ofNat, BitVec.toNat_ofNat,
      Nat.mod_eq_of_lt (by omega), Nat.mod_eq_of_lt (by omega)]
    rfl
  rw [addrLow, hvt, extractLsb'_eq_ofNat, Nat.pow_zero, Nat.div_one]

/-! ## One write, by the toggle -/

theorem scrollWrite_first {p : Ppu} (hw : p.w = false) (v : Byte) :
    scrollWrite v p =
      { p with
        regFH := BitVec.ofNat 3 v.toNat
        reg := { p.reg with ht := BitVec.ofNat 5 (v.toNat / 8) }
        w := true } := by
  simp [scrollWrite, hw, extractLsb'_eq_ofNat]

theorem scrollWrite_second {p : Ppu} (hw : p.w = true) (v : Byte) :
    scrollWrite v p =
      { p with
        reg := { p.reg with fv := BitVec.ofNat 3 v.toNat, vt := BitVec.ofNat 5 (v.toNat / 8) }
        w := false } := by
  simp [scrollWrite, hw, extractLsb'_eq_ofNat]

theorem addrWrite_first {p : Ppu} (hw : p.w = false) (v : Byte) :
    addrWrite v p = { p with reg := addrHigh v p.reg, w := true } := by
  simp [addrWrite, hw]

theorem addrWrite_second {p : Ppu} (hw : p.w = true) (v : Byte) :
    addrWrite v p = { p with reg := addrLow v p.reg, cnt := addrLow v p.reg, w := false } := by
  simp [addrWrite, hw]

/-! ## The pairs -/

theorem vramAddress_addrLow_addrHigh (hi lo : Byte) (r : Scroll) :
    (vramAddress (addrLow lo (addrHigh hi r))).toNat = (hi.toNat * 256 + lo.toNat) % 0x4000 := by
  rw [vramAddress_toNat, Scroll.bits_toNat, addrLow_eq, addrHigh_eq]
  simp only [BitVec.toNat_ofNat]
  omega

/-- The first PPUADDR write clears FV bit 2, and the second leaves FV alone (R317, R318). -/
theorem addrLow_addrHigh_fv_lt (hi lo : Byte) (r : Scroll) : (addrLow lo (addrHigh hi r)).fv.toNat < 4 := by
  rw [addrLow_eq, addrHigh_eq]
  simp only [BitVec.toNat_ofNat]
  omega

/-- Settles O42: the first write of a pair leaves the toggle at 1, so the second is the second at either port. -/
theorem scrollAndAddressPairs : Obligations.ScrollAndAddressPairs := by
  intro p x y hi lo
  refine ⟨fun hw => ⟨scrollWrite_first hw x, ?_⟩, fun hw => ⟨scrollWrite_second hw y, ?_⟩, fun hw => ?_⟩
  · rw [addrWrite_first hw, addrHigh_eq]
  · rw [addrWrite_second hw, addrLow_eq]
  · rw [scrollWrite_first hw, addrWrite_first hw, scrollWrite_second rfl, scrollWrite_second rfl, addrWrite_second rfl,
      addrWrite_second rfl]
    exact ⟨by rw [← hw], vramAddress_addrLow_addrHigh hi lo p.reg, addrLow_addrHigh_fv_lt hi lo p.reg,
      by rw [← hw], by rw [addrLow_eq, ← hw], by rw [addrHigh_eq, ← hw]⟩

end Sys2Proof.Machine
end

section
/-! The two directions of the encoding (30_encoding.md R121 to R124). Both go through the table entry: `Entry.build` is the
instruction an entry makes of an operand word, `Entry.operands` the bytes it leaves of that word, and an instruction
is the build of exactly the entry its opcode has. -/

namespace Sys2Proof

/-! ## What an entry makes of an operand word -/

/-- The instruction of an entry, from the low byte of the operand word (F2) or from the whole word (F3). -/
def Entry.build (w : Word) : Entry → Instr
  | .f1 i => i
  | .f2 make => make (loByte w)
  | .f3 make => make w

/-- The operand bytes of an entry, low byte first (R122, R123). -/
def Entry.operands (w : Word) : Entry → List Byte
  | .f1 _ => []
  | .f2 _ => [loByte w]
  | .f3 _ => [loByte w, hiByte w]

theorem Entry.operands_length_le (w : Word) (e : Entry) : (e.operands w).length ≤ 2 := by
  cases e <;> simp [Entry.operands]

/-! ## Decoding through the entry -/

theorem decode_entry {op : Byte} {e : Entry} (he : opcodeEntry op = some e) (w : Word) (rest : List Byte) :
    decode (op :: (e.operands w ++ rest)) = .ok (e.build w, rest) := by
  cases e with
  | f1 i => simp [decode, he, Entry.operands, Entry.build]
  | f2 make => simp [decode, he, Entry.operands, Entry.build]
  | f3 make => simp [decode, he, Entry.operands, Entry.build, mkWord_hi_lo]

/-- Whatever decodes is an opcode with an entry, the operand bytes of some word, and the rest. -/
theorem decode_ok_cases {bytes rest : List Byte} {i : Instr} (h : decode bytes = .ok (i, rest)) :
    ∃ op e w, opcodeEntry op = some e ∧ i = e.build w ∧ bytes = op :: (e.operands w ++ rest) := by
  match bytes with
  | [] => cases h
  | op :: bytes =>
    cases he : opcodeEntry op with
    | none => simp [decode, he] at h
    | some e =>
      refine ⟨op, e, ?_⟩
      match e, bytes with
      | .f1 j, bytes =>
        simp only [decode, he, Except.ok.injEq, Prod.mk.injEq] at h
        exact ⟨0, he, h.1.symm, congrArg _ h.2⟩
      | .f2 make, b :: bytes =>
        simp only [decode, he, Except.ok.injEq, Prod.mk.injEq] at h
        obtain ⟨rfl, rfl⟩ := h
        exact ⟨mkWord 0 b, he, by rw [Entry.build, loByte_mkWord], by simp [Entry.operands, loByte_mkWord]⟩
      | .f3 make, b1 :: b2 :: bytes =>
        simp only [decode, he, Except.ok.injEq, Prod.mk.injEq] at h
        obtain ⟨rfl, rfl⟩ := h
        exact ⟨mkWord b2 b1, he, rfl, by simp [Entry.operands, loByte_mkWord, hiByte_mkWord]⟩
      | .f2 make, [] => simp [decode, he] at h
      | .f3 make, [] => simp [decode, he] at h
      | .f3 make, [_] => simp [decode, he] at h

/-! ## The encoder has the table's opcodes -/

/-- What an entry makes is encoded to its opcode and its operand bytes. -/
theorem encode_build {op : Byte} {e : Entry} (he : opcodeEntry op = some e) (w : Word) :
    encode (e.build w) = op :: e.operands w := by
  unfold opcodeEntry at he
  split at he <;> cases he <;> rfl

/-- Every instruction is what the entry of its opcode makes of some operand word. -/
theorem exists_entry (i : Instr) : ∃ e w, opcodeEntry (opcodeOf i) = some e ∧ i = e.build w := by
  cases i with
  | ldaImm v | ldaZp v | ldaZpx v | ldaIndx v | ldaIndy v | ldxImm v | ldxZp v | ldxZpy v | ldyImm v | ldyZp v
  | ldyZpx v | staZp v | staZpx v | staIndx v | staIndy v | stxZp v | stxZpy v | styZp v | styZpx v | adcImm v
  | adcZp v | adcZpx v | adcIndx v | adcIndy v | sbcImm v | sbcZp v | sbcZpx v | sbcIndx v | sbcIndy v | andImm v
  | andZp v | andZpx v | andIndx v | andIndy v | oraImm v | oraZp v | oraZpx v | oraIndx v | oraIndy v | eorImm v
  | eorZp v | eorZpx v | eorIndx v | eorIndy v | bitZp v | cmpImm v | cmpZp v | cmpZpx v | cmpIndx v | cmpIndy v
  | cpxImm v | cpxZp v | cpyImm v | cpyZp v | incZp v | incZpx v | decZp v | decZpx v | aslZp v | aslZpx v | lsrZp v
  | lsrZpx v | rolZp v | rolZpx v | rorZp v | rorZpx v | bcc v | bcs v | beq v | bmi v | bne v | bpl v | bvc v | bvs v =>
    exact ⟨_, mkWord 0 v, rfl, by rw [Entry.build, loByte_mkWord]⟩
  | ldaAbs w | ldaAbsx w | ldaAbsy w | ldxAbs w | ldxAbsy w | ldyAbs w | ldyAbsx w | staAbs w | staAbsx w | staAbsy w
  | stxAbs w | styAbs w | adcAbs w | adcAbsx w | adcAbsy w | sbcAbs w | sbcAbsx w | sbcAbsy w | andAbs w | andAbsx w
  | andAbsy w | oraAbs w | oraAbsx w | oraAbsy w | eorAbs w | eorAbsx w | eorAbsy w | bitAbs w | cmpAbs w | cmpAbsx w
  | cmpAbsy w | cpxAbs w | cpyAbs w | incAbs w | incAbsx w | decAbs w | decAbsx w | aslAbs w | aslAbsx w | lsrAbs w
  | lsrAbsx w | rolAbs w | rolAbsx w | rorAbs w | rorAbsx w | jmpAbs w | jmpInd w | jsrAbs w =>
    exact ⟨_, w, rfl, rfl⟩
  | tax | tay | tsx | txa | txs | tya | pha | php | pla | plp | inx | iny | dex | dey | aslAcc | lsrAcc | rolAcc
  | rorAcc | rts | rti | brk | clc | cld | cli | clv | sec | sed | sei | nop =>
    exact ⟨_, 0, rfl, rfl⟩

/-- Settles O1: an instruction is encoded through its entry and read back through it. -/
theorem decodeInvertsEncode : Obligations.DecodeInvertsEncode := by
  intro i rest _
  obtain ⟨e, w, he, hi⟩ := exists_entry i
  rw [hi, encode_build (hi ▸ he) w]
  exact decode_entry (hi ▸ he) w rest

/-- Settles O2: what was read through an entry is what that entry encodes. -/
theorem encodeInvertsDecode : Obligations.EncodeInvertsDecode := by
  intro bytes rest i h
  obtain ⟨op, e, w, he, rfl, rfl⟩ := decode_ok_cases h
  have hlen := Entry.operands_length_le w e
  rw [encode_build he w, List.length_cons]
  exact ⟨rfl, by omega, by omega⟩

/-- Settles O3: each word is read by the decoder. -/
theorem sampleWordsDecode : Obligations.SampleWordsDecode :=
  ⟨rfl, rfl, rfl, rfl, rfl, rfl, rfl, rfl, rfl, rfl, rfl, rfl, rfl, rfl, rfl⟩

end Sys2Proof
end

section
/-! The forms of an instruction as rules of their shapes (41_load_store_transfer.md; 43_arithmetic_logic.md;
44_shift_rotate.md; 45_control_flow.md section 2): an immediate form completes, and a form with a memory operand
completes when its accesses do and halts at the first fatal one. A family is then a list of opcodes and one operation. -/

namespace Sys2Proof.Machine

/-! ## Every instruction answers -/

/-- Settles O7: an instruction answers by the law of its shape, and a step by its CPU step. -/
theorem everyInstructionAnswersNext : Obligations.EveryInstructionAnswersNext := by
  refine ⟨fun i s => ?_, fun s hrun => ?_⟩
  · obtain ⟨t, ht, -⟩ := exec_answers i s
    exact ⟨t, ht⟩
  · obtain ⟨t, ht, -⟩ := cpuStep_answers s
    exact ⟨_, step_of_cpuStep hrun ht⟩

/-! ## One rule per shape -/

/-- An access that raises a fatal error halts the machine with the opcode and the address of the instruction (R400). -/
theorem raiseIo_eq_haltedBy {i : Instr} {bytes : List Byte} (hbytes : encode i = bytes) (pc : Word) (x : IoError)
    (t : State) : raiseIo i pc x t = .next (haltedBy (bytes.headD 0) bytes.length pc x t) := by
  subst hbytes
  rfl

theorem plainFormRuns_of_execImmediate {i : Instr} {bytes : List Byte} {v : Byte} {op : Byte → State → State}
    (hbytes : encode i = bytes) (hexec : ∀ s, exec i s = execImmediate i v op s) : PlainFormRuns i bytes (op v) :=
  ⟨hbytes, fun s => completesIn_of_exec_eq_finish (hexec s)⟩

theorem plainFormRuns_of_execAccumulator {i : Instr} {bytes : List Byte} {f : Byte → Byte → Byte × Byte}
    {result carry : Byte → Byte → Byte} (hf : ∀ v p, f v p = (result v p, carry v p)) (hbytes : encode i = bytes)
    (hexec : ∀ s, exec i s = execAccumulator i f s) :
    PlainFormRuns i bytes (fun s => (s.setA (result s.a s.p)).setP (setNZ (result s.a s.p) (carry s.a s.p))) := by
  refine ⟨hbytes, fun s => completesIn_of_exec_eq_finish (n := 0) ?_⟩
  rw [hexec, execAccumulator, hf]

theorem readFormRuns_of_execRead {i : Instr} {bytes : List Byte} {m : MemMode} {op : Byte → State → State}
    (hbytes : encode i = bytes) (hexec : ∀ s, exec i s = execRead i m op s) : ReadFormRuns i bytes m op := by
  refine ⟨hbytes, fun s t v hr => ?_, fun s t x hr => ?_⟩
  · exact completesIn_of_exec_eq_finish ((hexec s).trans (execRead_ok hr))
  · rw [hexec, execRead_fatal hr, raiseIo_eq_haltedBy hbytes]

theorem storeFormRuns_of_execStore {i : Instr} {bytes : List Byte} {m : MemMode} {value : State → Byte}
    (hbytes : encode i = bytes) (hexec : ∀ s, exec i s = execStore i m (value s) s) :
    StoreFormRuns i bytes m value := by
  refine ⟨hbytes, fun s t hw => ?_, fun s t x hw => ?_⟩
  · exact completesIn_of_exec_eq_finish ((hexec s).trans (execStore_ok hw))
  · rw [hexec, execStore_fatal hw, raiseIo_eq_haltedBy hbytes]

theorem modifyFormRuns_of_execModify {i : Instr} {bytes : List Byte} {m : MemMode} {f : Byte → Byte → Byte × Byte}
    {result carry : Byte → Byte → Byte} (hf : ∀ v p, f v p = (result v p, carry v p)) (hbytes : encode i = bytes)
    (hexec : ∀ s, exec i s = execModify i m f s) : ModifyFormRuns i bytes m result carry := by
  obtain rfl : f = fun v p => (result v p, carry v p) := funext₂ hf
  refine ⟨hbytes, fun s t u v hr hw => ?_, fun s t x hr => ?_, fun s t u v x hr hw => ?_⟩
  · exact completesIn_of_exec_eq_finish ((hexec s).trans (execModify_ok hr hw))
  · rw [hexec, execModify_readFatal hr, raiseIo_eq_haltedBy hbytes]
  · rw [hexec, execModify_writeFatal hr hw, raiseIo_eq_haltedBy hbytes]

/-! ## Loads and stores -/

/-- Settles O12: each load form has its opcode, its mode and the operation of its register. -/
theorem loads : Obligations.Loads :=
  ⟨fun v => plainFormRuns_of_execImmediate (op := ldaOp) rfl (exec_ldaImm · v),
    fun b => readFormRuns_of_execRead (op := ldaOp) rfl (exec_ldaZp · b),
    fun b => readFormRuns_of_execRead (op := ldaOp) rfl (exec_ldaZpx · b),
    fun w => readFormRuns_of_execRead (op := ldaOp) rfl (exec_ldaAbs · w),
    fun w => readFormRuns_of_execRead (op := ldaOp) rfl (exec_ldaAbsx · w),
    fun w => readFormRuns_of_execRead (op := ldaOp) rfl (exec_ldaAbsy · w),
    fun b => readFormRuns_of_execRead (op := ldaOp) rfl (exec_ldaIndx · b),
    fun b => readFormRuns_of_execRead (op := ldaOp) rfl (exec_ldaIndy · b),
    fun v => plainFormRuns_of_execImmediate (op := ldxOp) rfl (exec_ldxImm · v),
    fun b => readFormRuns_of_execRead (op := ldxOp) rfl (exec_ldxZp · b),
    fun b => readFormRuns_of_execRead (op := ldxOp) rfl (exec_ldxZpy · b),
    fun w => readFormRuns_of_execRead (op := ldxOp) rfl (exec_ldxAbs · w),
    fun w => readFormRuns_of_execRead (op := ldxOp) rfl (exec_ldxAbsy · w),
    fun v => plainFormRuns_of_execImmediate (op := ldyOp) rfl (exec_ldyImm · v),
    fun b => readFormRuns_of_execRead (op := ldyOp) rfl (exec_ldyZp · b),
    fun b => readFormRuns_of_execRead (op := ldyOp) rfl (exec_ldyZpx · b),
    fun w => readFormRuns_of_execRead (op := ldyOp) rfl (exec_ldyAbs · w),
    fun w => readFormRuns_of_execRead (op := ldyOp) rfl (exec_ldyAbsx · w)⟩

/-- Settles O13: each store form has its opcode, its mode and the register it stores. -/
theorem stores : Obligations.Stores :=
  ⟨fun b => storeFormRuns_of_execStore rfl (exec_staZp · b), fun b => storeFormRuns_of_execStore rfl (exec_staZpx · b),
    fun w => storeFormRuns_of_execStore rfl (exec_staAbs · w), fun w => storeFormRuns_of_execStore rfl (exec_staAbsx · w),
    fun w => storeFormRuns_of_execStore rfl (exec_staAbsy · w),
    fun b => storeFormRuns_of_execStore rfl (exec_staIndx · b),
    fun b => storeFormRuns_of_execStore rfl (exec_staIndy · b), fun b => storeFormRuns_of_execStore rfl (exec_stxZp · b),
    fun b => storeFormRuns_of_execStore rfl (exec_stxZpy · b), fun w => storeFormRuns_of_execStore rfl (exec_stxAbs · w),
    fun b => storeFormRuns_of_execStore rfl (exec_styZp · b), fun b => storeFormRuns_of_execStore rfl (exec_styZpx · b),
    fun w => storeFormRuns_of_execStore rfl (exec_styAbs · w)⟩

/-! ## PHA, PLP, TXS, CLI, SEI, NOP -/

/-- Settles O18: each is an implied instruction with its opcode. -/
theorem otherImpliedInstructions : Obligations.OtherImpliedInstructions :=
  ⟨plainFormRuns_of_execImplied (op := phaOp) rfl exec_pha, plainFormRuns_of_execImplied (op := plpOp) rfl exec_plp,
    plainFormRuns_of_execImplied (op := txsOp) rfl exec_txs, plainFormRuns_of_execImplied (op := cliOp) rfl exec_cli,
    plainFormRuns_of_execImplied (op := seiOp) rfl exec_sei, plainFormRuns_of_execImplied (op := nopOp) rfl exec_nop⟩

/-! ## Arithmetic and logic -/

/-- Settles O19: each form has its opcode, its mode and the operation of ADC or SBC. -/
theorem addAndSubtract : Obligations.AddAndSubtract :=
  ⟨fun v => plainFormRuns_of_execImmediate (op := adcOp) rfl (exec_adcImm · v),
    fun b => readFormRuns_of_execRead (op := adcOp) rfl (exec_adcZp · b),
    fun b => readFormRuns_of_execRead (op := adcOp) rfl (exec_adcZpx · b),
    fun w => readFormRuns_of_execRead (op := adcOp) rfl (exec_adcAbs · w),
    fun w => readFormRuns_of_execRead (op := adcOp) rfl (exec_adcAbsx · w),
    fun w => readFormRuns_of_execRead (op := adcOp) rfl (exec_adcAbsy · w),
    fun b => readFormRuns_of_execRead (op := adcOp) rfl (exec_adcIndx · b),
    fun b => readFormRuns_of_execRead (op := adcOp) rfl (exec_adcIndy · b),
    fun v => plainFormRuns_of_execImmediate (op := sbcOp) rfl (exec_sbcImm · v),
    fun b => readFormRuns_of_execRead (op := sbcOp) rfl (exec_sbcZp · b),
    fun b => readFormRuns_of_execRead (op := sbcOp) rfl (exec_sbcZpx · b),
    fun w => readFormRuns_of_execRead (op := sbcOp) rfl (exec_sbcAbs · w),
    fun w => readFormRuns_of_execRead (op := sbcOp) rfl (exec_sbcAbsx · w),
    fun w => readFormRuns_of_execRead (op := sbcOp) rfl (exec_sbcAbsy · w),
    fun b => readFormRuns_of_execRead (op := sbcOp) rfl (exec_sbcIndx · b),
    fun b => readFormRuns_of_execRead (op := sbcOp) rfl (exec_sbcIndy · b)⟩

/-- Settles O21: each form has its opcode, its mode and the operation of AND, ORA or EOR. -/
theorem logicInstructions : Obligations.LogicInstructions :=
  ⟨fun v => plainFormRuns_of_execImmediate (op := andOp) rfl (exec_andImm · v),
    fun b => readFormRuns_of_execRead (op := andOp) rfl (exec_andZp · b),
    fun b => readFormRuns_of_execRead (op := andOp) rfl (exec_andZpx · b),
    fun w => readFormRuns_of_execRead (op := andOp) rfl (exec_andAbs · w),
    fun w => readFormRuns_of_execRead (op := andOp) rfl (exec_andAbsx · w),
    fun w => readFormRuns_of_execRead (op := andOp) rfl (exec_andAbsy · w),
    fun b => readFormRuns_of_execRead (op := andOp) rfl (exec_andIndx · b),
    fun b => readFormRuns_of_execRead (op := andOp) rfl (exec_andIndy · b),
    fun v => plainFormRuns_of_execImmediate (op := oraOp) rfl (exec_oraImm · v),
    fun b => readFormRuns_of_execRead (op := oraOp) rfl (exec_oraZp · b),
    fun b => readFormRuns_of_execRead (op := oraOp) rfl (exec_oraZpx · b),
    fun w => readFormRuns_of_execRead (op := oraOp) rfl (exec_oraAbs · w),
    fun w => readFormRuns_of_execRead (op := oraOp) rfl (exec_oraAbsx · w),
    fun w => readFormRuns_of_execRead (op := oraOp) rfl (exec_oraAbsy · w),
    fun b => readFormRuns_of_execRead (op := oraOp) rfl (exec_oraIndx · b),
    fun b => readFormRuns_of_execRead (op := oraOp) rfl (exec_oraIndy · b),
    fun v => plainFormRuns_of_execImmediate (op := eorOp) rfl (exec_eorImm · v),
    fun b => readFormRuns_of_execRead (op := eorOp) rfl (exec_eorZp · b),
    fun b => readFormRuns_of_execRead (op := eorOp) rfl (exec_eorZpx · b),
    fun w => readFormRuns_of_execRead (op := eorOp) rfl (exec_eorAbs · w),
    fun w => readFormRuns_of_execRead (op := eorOp) rfl (exec_eorAbsx · w),
    fun w => readFormRuns_of_execRead (op := eorOp) rfl (exec_eorAbsy · w),
    fun b => readFormRuns_of_execRead (op := eorOp) rfl (exec_eorIndx · b),
    fun b => readFormRuns_of_execRead (op := eorOp) rfl (exec_eorIndy · b)⟩

/-- Settles O22: each form has its opcode, its mode and the operation of BIT or of a compare, which write P alone. -/
theorem bitAndCompare : Obligations.BitAndCompare :=
  ⟨fun b => readFormRuns_of_execRead (op := bitOp) rfl (exec_bitZp · b),
    fun w => readFormRuns_of_execRead (op := bitOp) rfl (exec_bitAbs · w),
    fun v => plainFormRuns_of_execImmediate (op := cmpOp) rfl (exec_cmpImm · v),
    fun b => readFormRuns_of_execRead (op := cmpOp) rfl (exec_cmpZp · b),
    fun b => readFormRuns_of_execRead (op := cmpOp) rfl (exec_cmpZpx · b),
    fun w => readFormRuns_of_execRead (op := cmpOp) rfl (exec_cmpAbs · w),
    fun w => readFormRuns_of_execRead (op := cmpOp) rfl (exec_cmpAbsx · w),
    fun w => readFormRuns_of_execRead (op := cmpOp) rfl (exec_cmpAbsy · w),
    fun b => readFormRuns_of_execRead (op := cmpOp) rfl (exec_cmpIndx · b),
    fun b => readFormRuns_of_execRead (op := cmpOp) rfl (exec_cmpIndy · b),
    fun v => plainFormRuns_of_execImmediate (op := cpxOp) rfl (exec_cpxImm · v),
    fun b => readFormRuns_of_execRead (op := cpxOp) rfl (exec_cpxZp · b),
    fun w => readFormRuns_of_execRead (op := cpxOp) rfl (exec_cpxAbs · w),
    fun v => plainFormRuns_of_execImmediate (op := cpyOp) rfl (exec_cpyImm · v),
    fun b => readFormRuns_of_execRead (op := cpyOp) rfl (exec_cpyZp · b),
    fun w => readFormRuns_of_execRead (op := cpyOp) rfl (exec_cpyAbs · w)⟩

/-! ## Read-modify-write forms -/

theorem incByte_eq (v p : Byte) : incByte v p = (v + 1, p) := rfl

theorem decByte_eq (v p : Byte) : decByte v p = (v - 1, p) := rfl

/-- Settles O24: INC and DEC step the byte and write no carry. -/
theorem memoryIncrements : Obligations.MemoryIncrements :=
  ⟨fun b => modifyFormRuns_of_execModify incByte_eq rfl (exec_incZp · b),
    fun b => modifyFormRuns_of_execModify incByte_eq rfl (exec_incZpx · b),
    fun w => modifyFormRuns_of_execModify incByte_eq rfl (exec_incAbs · w),
    fun w => modifyFormRuns_of_execModify incByte_eq rfl (exec_incAbsx · w),
    fun b => modifyFormRuns_of_execModify decByte_eq rfl (exec_decZp · b),
    fun b => modifyFormRuns_of_execModify decByte_eq rfl (exec_decZpx · b),
    fun w => modifyFormRuns_of_execModify decByte_eq rfl (exec_decAbs · w),
    fun w => modifyFormRuns_of_execModify decByte_eq rfl (exec_decAbsx · w)⟩

theorem shiftLeft_one_eq_ofNat (v : Byte) : v <<< 1 = BitVec.ofNat 8 (v.toNat * 2) := by
  rw [← BitVec.toNat_inj, BitVec.toNat_shiftLeft, BitVec.toNat_ofNat, Nat.shiftLeft_eq]

theorem ushiftRight_one_eq_ofNat (v : Byte) : v >>> 1 = BitVec.ofNat 8 (v.toNat / 2) := by
  rw [← BitVec.toNat_inj, BitVec.toNat_ushiftRight, BitVec.toNat_ofNat, Nat.shiftRight_eq_div_pow]
  omega

/-- The carry enters the bit a left shift has cleared. -/
theorem shiftLeft_one_or_carry (v p : Byte) :
    (v <<< 1) ||| (if getFlag .c p then 0x01 else 0x00) = BitVec.ofNat 8 (v.toNat * 2 + carryIn p) := by
  have key : ∀ (v : Byte) (c : Bool), (v <<< 1) ||| (if c then 0x01 else 0x00) = BitVec.ofNat 8 (v.toNat * 2 + c.toNat) := by
    decide
  exact key v _

/-- The carry enters the bit a right shift has cleared. -/
theorem ushiftRight_one_or_carry (v p : Byte) :
    (v >>> 1) ||| (if getFlag .c p then 0x80 else 0x00) = BitVec.ofNat 8 (v.toNat / 2 + 128 * carryIn p) := by
  have key : ∀ (v : Byte) (c : Bool),
      (v >>> 1) ||| (if c then 0x80 else 0x00) = BitVec.ofNat 8 (v.toNat / 2 + 128 * c.toNat) := by decide
  exact key v _

theorem aslByte_eq (v p : Byte) : aslByte v p = (BitVec.ofNat 8 (v.toNat * 2), putFlag .c (v.getLsbD 7) p) := by
  rw [aslByte, shiftLeft_one_eq_ofNat, bitOf]

theorem lsrByte_eq (v p : Byte) : lsrByte v p = (BitVec.ofNat 8 (v.toNat / 2), putFlag .c (v.getLsbD 0) p) := by
  rw [lsrByte, ushiftRight_one_eq_ofNat, bitOf]

theorem rolByte_eq (v p : Byte) :
    rolByte v p = (BitVec.ofNat 8 (v.toNat * 2 + carryIn p), putFlag .c (v.getLsbD 7) p) := by
  rw [rolByte, shiftLeft_one_or_carry, bitOf]

theorem rorByte_eq (v p : Byte) :
    rorByte v p = (BitVec.ofNat 8 (v.toNat / 2 + 128 * carryIn p), putFlag .c (v.getLsbD 0) p) := by
  rw [rorByte, ushiftRight_one_or_carry, bitOf]

/-- Settles O26: each shift is one pair of result and carry in numbers, on A or on a memory operand. -/
theorem shiftsAndRotates : Obligations.ShiftsAndRotates :=
  ⟨plainFormRuns_of_execAccumulator aslByte_eq rfl exec_aslAcc,
    fun b => modifyFormRuns_of_execModify aslByte_eq rfl (exec_aslZp · b),
    fun b => modifyFormRuns_of_execModify aslByte_eq rfl (exec_aslZpx · b),
    fun w => modifyFormRuns_of_execModify aslByte_eq rfl (exec_aslAbs · w),
    fun w => modifyFormRuns_of_execModify aslByte_eq rfl (exec_aslAbsx · w),
    plainFormRuns_of_execAccumulator lsrByte_eq rfl exec_lsrAcc,
    fun b => modifyFormRuns_of_execModify lsrByte_eq rfl (exec_lsrZp · b),
    fun b => modifyFormRuns_of_execModify lsrByte_eq rfl (exec_lsrZpx · b),
    fun w => modifyFormRuns_of_execModify lsrByte_eq rfl (exec_lsrAbs · w),
    fun w => modifyFormRuns_of_execModify lsrByte_eq rfl (exec_lsrAbsx · w),
    plainFormRuns_of_execAccumulator rolByte_eq rfl exec_rolAcc,
    fun b => modifyFormRuns_of_execModify rolByte_eq rfl (exec_rolZp · b),
    fun b => modifyFormRuns_of_execModify rolByte_eq rfl (exec_rolZpx · b),
    fun w => modifyFormRuns_of_execModify rolByte_eq rfl (exec_rolAbs · w),
    fun w => modifyFormRuns_of_execModify rolByte_eq rfl (exec_rolAbsx · w),
    plainFormRuns_of_execAccumulator rorByte_eq rfl exec_rorAcc,
    fun b => modifyFormRuns_of_execModify rorByte_eq rfl (exec_rorZp · b),
    fun b => modifyFormRuns_of_execModify rorByte_eq rfl (exec_rorZpx · b),
    fun w => modifyFormRuns_of_execModify rorByte_eq rfl (exec_rorAbs · w),
    fun w => modifyFormRuns_of_execModify rorByte_eq rfl (exec_rorAbsx · w)⟩

/-! ## Jumps, subroutines, BRK and RTI -/

theorem mkWord_eq_ofNat (hi lo : Byte) : mkWord hi lo = BitVec.ofNat 16 (hi.toNat * 256 + lo.toNat) := by
  rw [← mkWord_toNat, BitVec.ofNat_toNat, BitVec.setWidth_eq]

theorem execJumpIndirect_ok {i : Instr} {w : Word} {s t u : State} {lo hi : Byte} (hlo : busRead w s = .ok lo t)
    (hhi : busRead (pointerHighAddress w) t = .ok hi u) :
    execJumpIndirect i w s = finish i 0 (u.setPc (mkWord hi lo)) := by
  simp only [execJumpIndirect, hlo, hhi]

theorem execJumpIndirect_lowFatal {i : Instr} {w : Word} {s t : State} {x : IoError} (hlo : busRead w s = .fatal x t) :
    execJumpIndirect i w s = raiseIo i s.pc x t := by
  simp only [execJumpIndirect, hlo]

theorem execJumpIndirect_highFatal {i : Instr} {w : Word} {s t u : State} {lo : Byte} {x : IoError}
    (hlo : busRead w s = .ok lo t) (hhi : busRead (pointerHighAddress w) t = .fatal x u) :
    execJumpIndirect i w s = raiseIo i s.pc x u := by
  simp only [execJumpIndirect, hlo, hhi]

/-- Settles O27: JMP Indirect by the outcomes of its two reads, the other three by their operations. -/
theorem jumpsAndSubroutines : Obligations.JumpsAndSubroutines := by
  refine ⟨fun w => ⟨rfl, fun s => completesIn_of_exec_eq_finish (exec_jmpAbs s w)⟩, fun _ => rfl,
    fun w s t u lo hi hlo hhi => ?_, fun w s t x hlo => ?_, fun w s t u lo x hlo hhi => ?_,
    fun w => ⟨rfl, fun s => completesIn_of_exec_eq_finish (exec_jsrAbs s w)⟩,
    plainFormRuns_of_execImplied (op := rtsOp) rfl exec_rts⟩
  · rw [← pointerHighAddress_eq] at hhi
    rw [← mkWord_eq_ofNat]
    exact completesIn_of_exec_eq_finish ((exec_jmpInd s w).trans (execJumpIndirect_ok hlo hhi))
  · exact (exec_jmpInd s w).trans (execJumpIndirect_lowFatal hlo)
  · rw [← pointerHighAddress_eq] at hhi
    exact (exec_jmpInd s w).trans (execJumpIndirect_highFatal hlo hhi)

/-- Settles O28: BRK is an interrupt entry and RTI the return from one. -/
theorem breakAndReturnFromInterrupt : Obligations.BreakAndReturnFromInterrupt := by
  refine ⟨rfl, rfl, fun s => ⟨_, _, _, rfl, busRead_prg _ (by decide), busRead_prg _ (by decide), ?_⟩,
    fun s => completesIn_of_exec_eq_finish (exec_rti s)⟩
  rw [← mkWord_eq_ofNat]
  exact completesIn_of_exec_eq_finish (exec_brk s)

end Sys2Proof.Machine
end

section
/-! The bus by address ranges (20_memory.md R71 to R78; 50_ppu_registers.md R310, R311), what a stored byte reads back as,
and the PPU port's own reads and writes (R312 to R315, R321, R323). -/

namespace Sys2Proof.Machine

/-! ## The address map in numbers -/

theorem sramIndex_eq_sub {a : Word} (h : 0x6000 ≤ a.toNat) : sramIndex a = a.toNat - 0x6000 := by
  unfold sramIndex
  bv_omega

theorem prgIndex_eq_mod (size : PrgSize) {a : Word} (h : 0x8000 ≤ a.toNat) :
    prgIndex size a = (a.toNat - 0x8000) % prgLength size := by
  have hsub : (a - 0x8000#16).toNat = a.toNat - 0x8000 := by bv_omega
  rw [prgIndex, hsub]

theorem busRead_ram {a : Word} (h : a.toNat ≤ 0x1FFF) (s : State) :
    busRead a s = .ok (s.ram.read (a.toNat % 0x800)) s := by
  rw [busRead, regionOf_eq_ram.mpr h, ramIndex_eq_mod]

theorem busRead_ppu {a : Word} (h : 0x2000 ≤ a.toNat) (h' : a.toNat ≤ 0x3FFF) (s : State) :
    busRead a s = ppuRegRead a s := by
  rw [busRead, regionOf_eq_ppu.mpr ⟨h, h'⟩]

theorem busRead_sram {a : Word} (h : 0x6000 ≤ a.toNat) (h' : a.toNat ≤ 0x7FFF) (s : State) :
    busRead a s = .ok (s.sram.read (a.toNat - 0x6000)) s := by
  rw [busRead, regionOf_eq_sram.mpr ⟨h, h'⟩, sramIndex_eq_sub h]

theorem busWrite_ram {a : Word} (h : a.toNat ≤ 0x1FFF) (v : Byte) (s : State) :
    busWrite a v s = .ok () (s.setRam (s.ram.write (a.toNat % 0x800) v)) := by
  rw [busWrite, regionOf_eq_ram.mpr h, ramIndex_eq_mod]

theorem busWrite_ppu {a : Word} (h : 0x2000 ≤ a.toNat) (h' : a.toNat ≤ 0x3FFF) (v : Byte) (s : State) :
    busWrite a v s = ppuRegWrite a v s := by
  rw [busWrite, regionOf_eq_ppu.mpr ⟨h, h'⟩]

theorem busWrite_sram {a : Word} (h : 0x6000 ≤ a.toNat) (h' : a.toNat ≤ 0x7FFF) (v : Byte) (s : State) :
    busWrite a v s = .ok () (s.setSram (s.sram.write (a.toNat - 0x6000) v)) := by
  rw [busWrite, regionOf_eq_sram.mpr ⟨h, h'⟩, sramIndex_eq_sub h]

theorem busWrite_prg {a : Word} (h : 0x8000 ≤ a.toNat) (v : Byte) (s : State) : busWrite a v s = .ok () s := by
  rw [busWrite, regionOf_eq_prg.mpr h]

/-- What lies between the PPU port and SRAM, but for the DMA and the controller port, is two regions without effect. -/
theorem regionOf_eq_io_or_expansion {a : Word} (h : 0x4000 ≤ a.toNat) (h' : a.toNat ≤ 0x5FFF) (hdma : a ≠ 0x4014#16)
    (hpad : a ≠ 0x4016#16) : regionOf a = .io ∨ regionOf a = .expansion := by
  cases hr : regionOf a with
  | io => exact .inl rfl
  | expansion => exact .inr rfl
  | ram => have := regionOf_eq_ram.mp hr; omega
  | ppu => have := regionOf_eq_ppu.mp hr; omega
  | dma => exact absurd (regionOf_eq_dma.mp hr) hdma
  | pad => exact absurd (regionOf_eq_pad.mp hr) hpad
  | sram => have := regionOf_eq_sram.mp hr; omega
  | prg => have := regionOf_eq_prg.mp hr; omega

theorem busWrite_io {a : Word} (h : 0x4000 ≤ a.toNat) (h' : a.toNat ≤ 0x5FFF) (hdma : a ≠ 0x4014#16)
    (hpad : a ≠ 0x4016#16) (v : Byte) (s : State) : busWrite a v s = .ok () s := by
  obtain hr | hr := regionOf_eq_io_or_expansion h h' hdma hpad <;> rw [busWrite, hr]

/-- A register without a read handler raises the fatal error of R310. -/
theorem ppuRegRead_unhandled {a : Word} (h2 : a.toNat % 8 ≠ 2) (h4 : a.toNat % 8 ≠ 4) (h7 : a.toNat % 8 ≠ 7)
    (s : State) : ppuRegRead a s = .fatal { addr := a, dir := .read } s := by
  rw [← ppuRegister_eq_mod] at h2 h4 h7
  unfold ppuRegRead
  split
  · exact absurd ‹_› h2
  · exact absurd ‹_› h4
  · exact absurd ‹_› h7
  · rfl

/-- Settles O36: each range of R71 is a region, and the PPU port is told apart by the low three bits. -/
theorem busReadMap : Obligations.BusReadMap := by
  intro a s
  refine ⟨fun h => busRead_ram h s, fun h h' => ?_, ?_, fun h h' hpad => ?_, fun h h' => busRead_sram h h' s,
    fun h => ?_⟩
  · rw [busRead_ppu h h']
    refine ⟨fun hr => ?_, fun hr => ?_, fun hr => ?_, fun h2 h4 h7 => ppuRegRead_unhandled h2 h4 h7 s⟩ <;>
      simp only [ppuRegRead, ppuRegister_eq_mod, hr]
  · rintro rfl
    rfl
  · exact busRead_of_peek (peek_io h h' hpad s)
  · rw [busRead_prg s h, State.prgByte, prgIndex_eq_mod _ h]

/-- Settles O37: each range of R72 is a region, and the PPU port is told apart by the low three bits. -/
theorem busWriteMap : Obligations.BusWriteMap := by
  intro a v s
  refine ⟨fun h => busWrite_ram h v s, fun h h' => ?_, ?_, fun h h' hdma hpad => busWrite_io h h' hdma hpad v s,
    fun h h' => busWrite_sram h h' v s, fun h => busWrite_prg h v s⟩
  · rw [busWrite_ppu h h']
    refine ⟨fun hr => ?_, fun hr => ?_, fun hr => ?_, fun hr => ?_, fun hr => ?_, fun hr => ?_⟩ <;>
      simp only [ppuRegWrite, ppuRegister_eq_mod, hr]
  · rintro rfl
    rfl

/-! ## Stored bytes read back -/

/-- Settles O38: RAM and SRAM are separate arrays, and an index tells addresses apart as far as its mirrors go. -/
theorem storedBytesAreReadBack : Obligations.StoredBytesAreReadBack := by
  intro a b v s t hw
  refine ⟨fun ha => ?_, fun ha ha' => ?_⟩
  · cases (busWrite_ram ha v s).symm.trans hw
    refine ⟨fun hb => ?_, fun hb hb' => busRead_sram hb hb' _⟩
    rw [busRead_ram hb, State.setRam_ram, Memory.read_write]
    simp only [eq_comm]
  · cases (busWrite_sram ha ha' v s).symm.trans hw
    refine ⟨fun hb hb' => ?_, fun hb => busRead_ram hb _⟩
    have hsame : b.toNat - 0x6000 = a.toNat - 0x6000 ↔ a = b := by
      rw [← BitVec.toNat_inj]
      omega
    rw [busRead_sram hb hb', State.setSram_sram, Memory.read_write]
    simp only [hsame]

/-! ## The PPU port -/

theorem statusRead_bits (p : Ppu) :
    (statusRead p).1.getLsbD 7 = p.vblank ∧ (statusRead p).1.getLsbD 6 = p.spr0Hit ∧
      (statusRead p).1.getLsbD 5 = p.sprOvf ∧ (statusRead p).1.toNat % 32 = 0 := by
  have key : ∀ b7 b6 b5 : Bool, ∀ v : Byte,
      v = (if b7 then 0x80 else 0x00) ||| (if b6 then 0x40 else 0x00) ||| (if b5 then 0x20 else 0x00) →
        v.getLsbD 7 = b7 ∧ v.getLsbD 6 = b6 ∧ v.getLsbD 5 = b5 ∧ v.toNat % 32 = 0 := by
    rintro b7 b6 b5 _ rfl
    revert b7 b6 b5
    decide
  exact key p.vblank p.spr0Hit p.sprOvf _ rfl

theorem ctrlWrite_eq (v : Byte) (p : Ppu) :
    ctrlWrite v p =
      { p with ctrl := v, reg := { p.reg with v := BitVec.ofNat 1 (v.toNat / 2), h := BitVec.ofNat 1 v.toNat } } := by
  rw [ctrlWrite, extractLsb'_eq_ofNat, extractLsb'_eq_ofNat, Nat.pow_one, Nat.pow_zero, Nat.div_one]

theorem ppuDataRead_buffered (cfg : Config) {p : Ppu} (h : (vramAddress p.cnt).toNat < 0x3F00) :
    ppuDataRead cfg p =
      (p.readBuffer, incrementScrollCounters { p with readBuffer := ppuRead cfg p (vramAddress p.cnt) }) :=
  if_pos h

theorem ppuDataRead_immediate (cfg : Config) {p : Ppu} (h : 0x3F00 ≤ (vramAddress p.cnt).toNat) :
    ppuDataRead cfg p =
      (ppuRead cfg p (vramAddress p.cnt),
        incrementScrollCounters { p with readBuffer := ppuRead cfg p (vramAddress p.cnt - 0x1000) }) :=
  if_neg (Nat.not_lt.mpr h)

/-- Settles O41. -/
theorem ppuPort : Obligations.PpuPort := by
  intro cfg p v
  obtain ⟨h7, h6, h5, hlow⟩ := statusRead_bits p
  exact ⟨h7, h6, h5, hlow, rfl, ctrlWrite_eq v p, rfl, rfl, rfl, ppuDataRead_buffered cfg, ppuDataRead_immediate cfg⟩

end Sys2Proof.Machine
end

section
/-! What a storing and a pushing instruction leave alone (20_memory.md R74, R77, R84; 42_stack.md R180). A bus write at `a`
reaches no CPU byte but the one `a` names, and the PPU and the controller only through their ports; a push reaches its
stack byte alone. -/

namespace Sys2Proof.Machine

/-! ## Every instruction by its shape -/

/-- The form of `exec i s` that a shape stands for. -/
def RunsAs (i : Instr) (s : State) : Shape → Prop
  | .plain | .accumulator | .immediate => ∃ t, exec i s = finish i 0 t
  | .read m => ∃ f, exec i s = execRead i m f s
  | .store m => ∃ v, exec i s = execStore i m v s
  | .modify m => ∃ f, exec i s = execModify i m f s
  | .branch d => exec i s = execBranch i d (branchTaken i s.p) s
  | .jumpIndirect w => exec i s = execJumpIndirect i w s

theorem exec_runsAs_shapeOf (i : Instr) (s : State) : RunsAs i s (shapeOf i) := by
  cases i with
  | bcc _ | bcs _ | beq _ | bmi _ | bne _ | bpl _ | bvc _ | bvs _ | jmpInd _ => exact rfl
  | _ => exact ⟨_, rfl⟩

/-! ## What an access at an address leaves alone -/

/-- Two states with the same CPU memories and configuration read the same. -/
theorem peek_congr {s t : State} (hram : t.ram = s.ram) (hsram : t.sram = s.sram) (hprg : t.prg = s.prg)
    (hcfg : t.cfg = s.cfg) (a : Word) : peek t a = peek s a := by
  simp only [peek, State.prgByte, hram, hsram, hprg, hcfg]

/-- What an access at `a` leaves of a state: every CPU byte `a` does not name, the PPU and the controller outside their
ports and the DMA port. -/
structure KeptBeside (a : Word) (s t : State) : Prop where
  cell : ∀ b, sameCell b a = false → peek t b = peek s b
  ppu : regionOf a ≠ .ppu → regionOf a ≠ .dma → t.ppu = s.ppu
  pad : regionOf a ≠ .pad → regionOf a ≠ .dma → t.pad = s.pad

theorem KeptBeside.refl (a : Word) (s : State) : KeptBeside a s s :=
  ⟨fun _ _ => rfl, fun _ _ => rfl, fun _ _ => rfl⟩

theorem KeptBeside.trans {a : Word} {s t u : State} (h : KeptBeside a s t) (k : KeptBeside a t u) :
    KeptBeside a s u where
  cell b hb := (k.cell b hb).trans (h.cell b hb)
  ppu h1 h2 := (k.ppu h1 h2).trans (h.ppu h1 h2)
  pad h1 h2 := (k.pad h1 h2).trans (h.pad h1 h2)

theorem KeptBeside.setP (a : Word) (s : State) (p : Byte) : KeptBeside a s (s.setP p) :=
  ⟨fun _ _ => rfl, fun _ _ => rfl, fun _ _ => rfl⟩

theorem KeptBeside.setCyc (a : Word) (s : State) (n : Nat) : KeptBeside a s (s.setCyc n) :=
  ⟨fun _ _ => rfl, fun _ _ => rfl, fun _ _ => rfl⟩

theorem KeptBeside.halt (a : Word) (s : State) (e : FatalError) : KeptBeside a s (s.halt e) :=
  ⟨fun _ _ => rfl, fun _ _ => rfl, fun _ _ => rfl⟩

/-- Of the parts of the state an access may change, reads, the PPU port and the DMA reach these three. -/
def ReachesIo (s t : State) : Prop := ∃ q d n, t = ((s.setPpu q).setPad d).setDmaStall n

theorem ReachesIo.refl (s : State) : ReachesIo s s := ⟨s.ppu, s.pad, s.dmaStall, rfl⟩

theorem ReachesIo.trans {s t u : State} (h : ReachesIo s t) (k : ReachesIo t u) : ReachesIo s u := by
  obtain ⟨q, d, n, rfl⟩ := h
  obtain ⟨q', d', n', rfl⟩ := k
  exact ⟨q', d', n', rfl⟩

theorem ReachesIo.setPpu (s : State) (q : Ppu) : ReachesIo s (s.setPpu q) := ⟨q, s.pad, s.dmaStall, rfl⟩

theorem ReachesIo.setPad (s : State) (d : Pad) : ReachesIo s (s.setPad d) := ⟨s.ppu, d, s.dmaStall, rfl⟩

theorem ReachesIo.setDmaStall (s : State) (n : Nat) : ReachesIo s (s.setDmaStall n) := ⟨s.ppu, s.pad, n, rfl⟩

theorem ReachesIo.peek {s t : State} (h : ReachesIo s t) (a : Word) : peek t a = peek s a := by
  obtain ⟨q, d, n, rfl⟩ := h
  exact peek_congr rfl rfl rfl rfl a

theorem ppuRegRead_state (a : Word) (s : State) : ∃ q, (ppuRegRead a s).state = s.setPpu q := by
  unfold ppuRegRead
  split
  case h_4 => exact ⟨s.ppu, rfl⟩
  all_goals exact ⟨_, rfl⟩

theorem ppuRegWrite_state (a : Word) (v : Byte) (s : State) : ∃ q, (ppuRegWrite a v s).state = s.setPpu q := by
  unfold ppuRegWrite
  split
  case h_8 => exact ⟨s.ppu, rfl⟩
  all_goals exact ⟨_, rfl⟩

theorem busRead_reachesIo (a : Word) (s : State) : ReachesIo s (busRead a s).state := by
  unfold busRead
  cases regionOf a with
  | ppu =>
    obtain ⟨q, hq⟩ := ppuRegRead_state a s
    exact hq ▸ ReachesIo.setPpu s q
  | pad => exact ReachesIo.setPad s _
  | _ => exact ReachesIo.refl s

theorem oamDmaCopy_reachesIo (page : Byte) (l : List Nat) (s : State) : ReachesIo s (oamDmaCopy page l s).state := by
  induction l generalizing s with
  | nil => exact ReachesIo.refl s
  | cons i l ih =>
    have hr := busRead_reachesIo (mkWord page (BitVec.ofNat 8 i)) s
    unfold oamDmaCopy
    cases h : busRead (mkWord page (BitVec.ofNat 8 i)) s with
    | ok b t => rw [h] at hr; exact (hr.trans (ReachesIo.setPpu t _)).trans (ih _)
    | fatal x t => rw [h] at hr; exact hr

theorem oamDma_reachesIo (page : Byte) (s : State) : ReachesIo s (oamDma page s).state := by
  have hc := oamDmaCopy_reachesIo page (List.range 256) s
  unfold oamDma
  cases h : oamDmaCopy page (List.range 256) s with
  | ok _ t => rw [h] at hc; exact hc.trans (ReachesIo.setDmaStall t _)
  | fatal x t => rw [h] at hc; exact hc

/-- A bus read changes no CPU byte, the PPU through its port and the controller through its own. -/
theorem busRead_keptBeside (a : Word) (s : State) : KeptBeside a s (busRead a s).state := by
  refine ⟨fun b _ => (busRead_reachesIo a s).peek b, fun hppu _ => ?_, fun hpad _ => ?_⟩ <;> unfold busRead
  · cases h : regionOf a with
    | ppu => exact absurd h hppu
    | _ => rfl
  · cases h : regionOf a with
    | pad => exact absurd h hpad
    | ppu =>
      obtain ⟨q, hq⟩ := ppuRegRead_state a s
      have hkept := congrArg State.pad hq
      exact hkept
    | _ => rfl

/-- Storing a RAM byte leaves every address that does not name it. -/
theorem peek_setRam_other {b : Word} {i : Nat} (h : regionOf b = .ram → ramIndex b ≠ i) (v : Byte) (s : State) :
    peek (s.setRam (s.ram.write i v)) b = peek s b := by
  unfold peek
  cases hr : regionOf b with
  | ram => exact congrArg some (Memory.read_write_other (h hr) s.ram v)
  | _ => rfl

/-- Storing an SRAM byte leaves every address that does not name it. -/
theorem peek_setSram_other {b : Word} {i : Nat} (h : regionOf b = .sram → sramIndex b ≠ i) (v : Byte) (s : State) :
    peek (s.setSram (s.sram.write i v)) b = peek s b := by
  unfold peek
  cases hr : regionOf b with
  | sram => exact congrArg some (Memory.read_write_other (h hr) s.sram v)
  | _ => rfl

theorem ramIndex_ne_of_sameCell {a b : Word} (hc : sameCell b a = false) (ha : regionOf a = .ram)
    (hb : regionOf b = .ram) : ramIndex b ≠ ramIndex a := by
  intro he
  simp [sameCell, ha, hb, he] at hc

theorem sramIndex_ne_of_sameCell {a b : Word} (hc : sameCell b a = false) (ha : regionOf a = .sram)
    (hb : regionOf b = .sram) : sramIndex b ≠ sramIndex a := by
  intro he
  have hlo := regionOf_eq_sram.mp ha
  have hlo' := regionOf_eq_sram.mp hb
  rw [sramIndex_eq_sub hlo.1, sramIndex_eq_sub hlo'.1] at he
  obtain rfl : b = a := BitVec.eq_of_toNat_eq (by omega)
  simp [sameCell, ha] at hc

/-- A bus write changes the byte its address names, the PPU and the controller through their ports, or, through the DMA
port, sprite RAM and what the copied reads change. -/
theorem busWrite_keptBeside (a : Word) (v : Byte) (s : State) : KeptBeside a s (busWrite a v s).state := by
  unfold busWrite
  cases ha : regionOf a with
  | ram =>
    exact ⟨fun b hb => peek_setRam_other (ramIndex_ne_of_sameCell hb ha) v s, fun _ _ => rfl, fun _ _ => rfl⟩
  | sram =>
    exact ⟨fun b hb => peek_setSram_other (sramIndex_ne_of_sameCell hb ha) v s, fun _ _ => rfl, fun _ _ => rfl⟩
  | ppu =>
    obtain ⟨q, hq⟩ := ppuRegWrite_state a v s
    have hpad := congrArg State.pad hq
    refine ⟨fun b _ => ?_, fun h => absurd ha h, fun _ _ => hpad⟩
    rw [hq]
    exact (ReachesIo.setPpu s q).peek b
  | dma => exact ⟨fun b _ => (oamDma_reachesIo v s).peek b, fun _ h => absurd ha h, fun _ h => absurd ha h⟩
  | pad => exact ⟨fun b _ => (ReachesIo.setPad s _).peek b, fun _ _ => rfl, fun h => absurd ha h⟩
  | io | expansion | prg => exact KeptBeside.refl a s

/-! ## Stores -/

theorem execStore_keptBeside {i : Instr} {m : MemMode} {v : Byte} {s t : State} (h : execStore i m v s = .next t) :
    KeptBeside (m.ea s) s t := by
  have hw := busWrite_keptBeside (m.ea s) v s
  cases k : busWrite (m.ea s) v s with
  | ok _ u => rw [k] at hw; rw [execStore_ok k] at h; cases h; exact hw.trans (KeptBeside.setCyc _ u _)
  | fatal x u => rw [k] at hw; rw [execStore_fatal k] at h; cases h; exact hw.trans (KeptBeside.halt _ u _)

theorem execModify_keptBeside {i : Instr} {m : MemMode} {f : Byte → Byte → Byte × Byte} {s t : State}
    (h : execModify i m f s = .next t) : KeptBeside (m.ea s) s t := by
  have hr := busRead_keptBeside (m.ea s) s
  cases k : busRead (m.ea s) s with
  | fatal x u => rw [k] at hr; rw [execModify_readFatal k] at h; cases h; exact hr.trans (KeptBeside.halt _ u _)
  | ok v u =>
    rw [k] at hr
    have hw := (hr.trans (KeptBeside.setP _ u (f v u.p).2)).trans
      (busWrite_keptBeside (m.ea s) (f v u.p).1 (u.setP (f v u.p).2))
    cases l : busWrite (m.ea s) (f v u.p).1 (u.setP (f v u.p).2) with
    | fatal x w => rw [l] at hw; rw [execModify_writeFatal k l] at h; cases h; exact hw.trans (KeptBeside.halt _ w _)
    | ok _ w =>
      rw [l] at hw
      rw [execModify_ok k l] at h
      cases h
      exact (hw.trans (KeptBeside.setP _ w _)).trans (KeptBeside.setCyc _ _ _)

/-- Settles O34: the accesses of a storing form are all at the address of its mode. -/
theorem storesChangeOnlyTheirByte : Obligations.StoresChangeOnlyTheirByte := by
  intro i m s t h hshape
  have hruns := exec_runsAs_shapeOf i s
  have hkept : KeptBeside (m.ea s) s t := by
    obtain hs | hs := hshape <;> rw [hs] at hruns
    · obtain ⟨v, hv⟩ := hruns
      exact execStore_keptBeside (hv.symm.trans h)
    · obtain ⟨f, hf⟩ := hruns
      exact execModify_keptBeside (hf.symm.trans h)
  exact ⟨hkept.cell, hkept.ppu, hkept.pad⟩

/-! ## Pushes -/

/-- What a run of `n` pushes from `s` leaves alone. -/
structure KeptBesideStack (n : Nat) (s t : State) : Prop where
  cell : ∀ a, (∀ k, k < n → sameCell a (stackAddress s k) = false) → peek t a = peek s a
  ppu : t.ppu = s.ppu
  pad : t.pad = s.pad
  dmaStall : t.dmaStall = s.dmaStall

theorem KeptBesideStack.refl (s : State) : KeptBesideStack 0 s s := ⟨fun _ _ => rfl, rfl, rfl, rfl⟩

theorem stackAddress_zero (s : State) : stackAddress s 0 = 0x0100#16 + zext16 s.sp := by
  rw [stackAddress, BitVec.sub_zero]

theorem stackAddress_push (v : Byte) (s : State) (k : Nat) : stackAddress (push v s) k = stackAddress s (k + 1) := by
  rw [stackAddress, stackAddress, push_sp, Nat.add_comm k 1, BitVec.ofNat_add, sub_sub]
  rfl

theorem peek_push_other {a : Word} {s : State} (h : sameCell a (stackAddress s 0) = false) (v : Byte) :
    peek (push v s) a = peek s a := by
  rw [stackAddress_zero] at h
  refine peek_setRam_other (fun ha => ?_) v s
  rw [← ramIndex_stack]
  exact ramIndex_ne_of_sameCell h (regionOf_stack s.sp) ha

/-- One push before a run of them. -/
theorem KeptBesideStack.push {n : Nat} {v : Byte} {s t : State} (h : KeptBesideStack n (push v s) t) :
    KeptBesideStack (n + 1) s t where
  cell a ha := by
    rw [h.cell a fun k hk => by rw [stackAddress_push]; exact ha (k + 1) (by omega)]
    exact peek_push_other (ha 0 (by omega)) v
  ppu := h.ppu
  pad := h.pad
  dmaStall := h.dmaStall

theorem KeptBesideStack.setPc {n : Nat} {s t : State} (h : KeptBesideStack n s t) (w : Word) :
    KeptBesideStack n s (t.setPc w) := ⟨h.cell, h.ppu, h.pad, h.dmaStall⟩

theorem KeptBesideStack.setP {n : Nat} {s t : State} (h : KeptBesideStack n s t) (p : Byte) :
    KeptBesideStack n s (t.setP p) := ⟨h.cell, h.ppu, h.pad, h.dmaStall⟩

theorem KeptBesideStack.setCyc {n : Nat} {s t : State} (h : KeptBesideStack n s t) (c : Nat) :
    KeptBesideStack n s (t.setCyc c) := ⟨h.cell, h.ppu, h.pad, h.dmaStall⟩

/-- An interrupt entry pushes three bytes (R238, R403). -/
theorem enterInterrupt_keptBesideStack (r : Word) (st : Byte) (v : Word) (s : State) :
    KeptBesideStack 3 s (enterInterrupt r st v s) :=
  ((KeptBesideStack.refl _).push.push.push.setP _).setPc _

/-- The four mnemonics that push, and how many bytes. -/
theorem pushing_cases {i : Instr} (h : 0 < pushedBytes i) :
    (i = .pha ∧ pushedBytes i = 1) ∨ (i = .php ∧ pushedBytes i = 1) ∨ ((∃ w, i = .jsrAbs w) ∧ pushedBytes i = 2) ∨
      (i = .brk ∧ pushedBytes i = 3) := by
  cases i with
  | pha | php | jsrAbs _ | brk => simp [pushedBytes, mnemonic]
  | _ => simp [pushedBytes, mnemonic] at h

/-- Settles O35: each pushing instruction is a run of pushes and writes of registers. -/
theorem pushesChangeOnlyTheStack : Obligations.PushesChangeOnlyTheStack := by
  intro i s t h hpush
  have hkept : KeptBesideStack (pushedBytes i) s t := by
    obtain ⟨rfl, hn⟩ | ⟨rfl, hn⟩ | ⟨⟨w, rfl⟩, hn⟩ | ⟨rfl, hn⟩ := pushing_cases hpush <;> rw [hn] <;> cases h
    · exact (KeptBesideStack.refl _).push.setCyc _
    · exact (KeptBesideStack.refl _).push.setCyc _
    · exact ((KeptBesideStack.refl _).push.push.setPc w).setCyc _
    · exact (enterInterrupt_keptBesideStack _ _ _ s).setCyc _
  exact ⟨hkept.cell, hkept.ppu, hkept.pad, hkept.dmaStall⟩

end Sys2Proof.Machine
end

section
/-! Time (30_encoding.md R125; 53_frame_scheduler.md R393; 70_reset_and_hazards.md R450, R451). The cost is added where an
instruction completes, by its shape; and no access and no operation reads the cost fields or the timing parameters, so
forgetting them before an instruction or after it is the same. -/

namespace Sys2Proof.Machine

/-! ## The cost of an instruction that completes -/

/-- The table of R125 gives each shape one cost. -/
theorem baseCycles_eq_shapeCost (i : Instr) : baseCycles i = shapeCost i := by
  cases i with
  | tax | tay | tsx | txa | txs | tya | pha | php | pla | plp | inx | iny | dex | dey | jmpAbs _ | jsrAbs _ | rts | rti
  | brk | clc | cld | cli | clv | sec | sed | sei | nop => simp [baseCycles, shapeCost, shapeOf, mnemonic]
  | _ => rfl

/-- R125 marks every read whose address can cross a page. -/
theorem pageCrossMark_and_crossed_of_read {i : Instr} {m : MemMode} (h : shapeOf i = .read m) (s : State) :
    (pageCrossMark i && m.crossed s) = m.crossed s := by
  cases i <;> cases h <;> rfl

/-- R125 marks no store and no read-modify-write. -/
theorem pageCrossMark_of_store_or_modify {i : Instr} {m : MemMode} (h : shapeOf i = .store m ∨ shapeOf i = .modify m) :
    pageCrossMark i = false := by
  obtain h | h := h <;> cases i <;> cases h <;> rfl

theorem crossCycles_of_read {i : Instr} {m : MemMode} (h : shapeOf i = .read m) (s : State) (cfg : Config) :
    crossCycles i (m.crossed s) cfg = if m.crossed s && cfg.pageCrossPenalty then 1 else 0 := by
  rw [crossCycles, pageCrossMark_and_crossed_of_read h]

theorem crossCycles_of_store_or_modify {i : Instr} {m : MemMode} (h : shapeOf i = .store m ∨ shapeOf i = .modify m)
    (c : Bool) (cfg : Config) : crossCycles i c cfg = 0 := by
  rw [crossCycles, pageCrossMark_of_store_or_modify h]
  rfl

/-- The outcome costs `n` more than the base, or the machine has halted. -/
def Costs (i : Instr) (n : Nat) (r : Host.Outcome State Fault Refusal) : Prop :=
  ∀ t, r = .next t → t.run = .running → t.cyc = baseCycles i + n + t.dmaStall

theorem finish_costs (i : Instr) (n : Nat) (s : State) : Costs i n (finish i n s) := by
  rintro _ ⟨⟩ _
  rfl

theorem raiseIo_costs (i : Instr) (n : Nat) (pc : Word) (x : IoError) (s : State) : Costs i n (raiseIo i pc x s) := by
  rintro _ ⟨⟩ hrun
  cases hrun

theorem execRead_costs {i : Instr} {m : MemMode} (h : shapeOf i = .read m) (f : Byte → State → State) (s : State) :
    Costs i (if m.crossed s && s.cfg.pageCrossPenalty then 1 else 0) (execRead i m f s) := by
  have hcfg := (busRead_keeps (m.ea s) s).state.cfg
  cases k : busRead (m.ea s) s with
  | ok v t =>
    rw [k] at hcfg
    rw [execRead_ok k, crossCycles_of_read h, ← hcfg]
    exact finish_costs i _ _
  | fatal x t => rw [execRead_fatal k]; exact raiseIo_costs i _ _ x _

theorem execStore_costs {i : Instr} {m : MemMode} (h : shapeOf i = .store m) (v : Byte) (s : State) :
    Costs i 0 (execStore i m v s) := by
  cases k : busWrite (m.ea s) v s with
  | ok _ t => rw [execStore_ok k, crossCycles_of_store_or_modify (.inl h)]; exact finish_costs i _ _
  | fatal x t => rw [execStore_fatal k]; exact raiseIo_costs i _ _ x _

theorem execModify_costs {i : Instr} {m : MemMode} (h : shapeOf i = .modify m) (f : Byte → Byte → Byte × Byte)
    (s : State) : Costs i 0 (execModify i m f s) := by
  cases k : busRead (m.ea s) s with
  | fatal x t => rw [execModify_readFatal k]; exact raiseIo_costs i _ _ x _
  | ok v t =>
    cases l : busWrite (m.ea s) (f v t.p).1 (t.setP (f v t.p).2) with
    | fatal x u => rw [execModify_writeFatal k l]; exact raiseIo_costs i _ _ x _
    | ok _ u => rw [execModify_ok k l, crossCycles_of_store_or_modify (.inr h)]; exact finish_costs i _ _

theorem execJumpIndirect_costs (i : Instr) (w : Word) (s : State) : Costs i 0 (execJumpIndirect i w s) := by
  cases k : busRead w s with
  | fatal x t => rw [execJumpIndirect_lowFatal k]; exact raiseIo_costs i _ _ x _
  | ok lo t =>
    cases l : busRead (pointerHighAddress w) t with
    | fatal x u => rw [execJumpIndirect_highFatal k l]; exact raiseIo_costs i _ _ x _
    | ok hi u => rw [execJumpIndirect_ok k l]; exact finish_costs i _ _

theorem exec_costs (i : Instr) (s : State) : Costs i (extraCycles i s) (exec i s) := by
  have hruns := exec_runsAs_shapeOf i s
  unfold extraCycles
  cases h : shapeOf i with
  | plain | accumulator | immediate =>
    rw [h] at hruns
    obtain ⟨t, ht⟩ := hruns
    exact ht ▸ finish_costs i 0 t
  | read m =>
    rw [h] at hruns
    obtain ⟨f, hf⟩ := hruns
    exact hf ▸ execRead_costs h f s
  | store m =>
    rw [h] at hruns
    obtain ⟨v, hv⟩ := hruns
    exact hv ▸ execStore_costs h v s
  | modify m =>
    rw [h] at hruns
    obtain ⟨f, hf⟩ := hruns
    exact hf ▸ execModify_costs h f s
  | branch d =>
    rw [h] at hruns
    exact (show exec i s = _ from hruns) ▸ finish_costs i _ _
  | jumpIndirect w =>
    rw [h] at hruns
    exact (show exec i s = _ from hruns) ▸ execJumpIndirect_costs i w s

/-- Settles O31: the cost by shape, and the base cost as the shape's. -/
theorem cycleCosts : Obligations.CycleCosts := by
  intro i s t _ h hrun
  rw [← baseCycles_eq_shapeCost]
  exact exec_costs i s t h hrun

/-! ## Accesses without their timing -/

@[simp] theorem withoutTiming_idem (s : State) : withoutTiming (withoutTiming s) = withoutTiming s := rfl

@[simp] theorem withoutTiming_ram (s : State) : (withoutTiming s).ram = s.ram := rfl

@[simp] theorem withoutTiming_sram (s : State) : (withoutTiming s).sram = s.sram := rfl

@[simp] theorem withoutTiming_ppu (s : State) : (withoutTiming s).ppu = s.ppu := rfl

@[simp] theorem withoutTiming_pad (s : State) : (withoutTiming s).pad = s.pad := rfl

@[simp] theorem withoutTiming_setRam (s : State) (m : Memory) :
    (withoutTiming s).setRam m = withoutTiming (s.setRam m) := rfl

@[simp] theorem withoutTiming_setSram (s : State) (m : Memory) :
    (withoutTiming s).setSram m = withoutTiming (s.setSram m) := rfl

@[simp] theorem withoutTiming_setPpu (s : State) (q : Ppu) :
    (withoutTiming s).setPpu q = withoutTiming (s.setPpu q) := rfl

@[simp] theorem withoutTiming_setPad (s : State) (d : Pad) :
    (withoutTiming s).setPad d = withoutTiming (s.setPad d) := rfl

@[simp] theorem withoutTiming_setDmaStall (s : State) (n : Nat) : withoutTiming (s.setDmaStall n) = withoutTiming s := rfl

@[simp] theorem ppuDataRead_withoutTiming (s : State) (p : Ppu) :
    ppuDataRead (withoutTiming s).cfg p = ppuDataRead s.cfg p := rfl

@[simp] theorem ppuDataWrite_withoutTiming (s : State) (v : Byte) (p : Ppu) :
    ppuDataWrite (withoutTiming s).cfg v p = ppuDataWrite s.cfg v p := rfl

/-- A bus read neither reads nor writes a timing field. -/
theorem busRead_withoutTiming (a : Word) (s : State) :
    busRead a (withoutTiming s) = (busRead a s).mapState withoutTiming := by
  unfold busRead
  cases regionOf a with
  | ppu =>
    simp only [ppuRegRead, withoutTiming_ppu, ppuDataRead_withoutTiming]
    split <;> rfl
  | _ => rfl

theorem oamDmaCopy_withoutTiming (page : Byte) (l : List Nat) (s : State) :
    oamDmaCopy page l (withoutTiming s) = (oamDmaCopy page l s).mapState withoutTiming := by
  induction l generalizing s with
  | nil => rfl
  | cons i l ih =>
    unfold oamDmaCopy
    rw [busRead_withoutTiming]
    cases busRead (mkWord page (BitVec.ofNat 8 i)) s with
    | ok b t => exact ih (storeOamByte i b t)
    | fatal x t => rfl

/-- The DMA adds the stall of the configuration, which is forgotten after it. -/
theorem oamDma_withoutTiming (page : Byte) (s : State) :
    (oamDma page (withoutTiming s)).mapState withoutTiming = (oamDma page s).mapState withoutTiming := by
  unfold oamDma
  rw [oamDmaCopy_withoutTiming]
  cases oamDmaCopy page (List.range 256) s <;> simp [Access.mapState]

theorem busWrite_withoutTiming (a : Word) (v : Byte) (s : State) :
    (busWrite a v (withoutTiming s)).mapState withoutTiming = (busWrite a v s).mapState withoutTiming := by
  unfold busWrite
  cases regionOf a with
  | dma => exact oamDma_withoutTiming v s
  | ppu =>
    simp only [ppuRegWrite, withoutTiming_ppu, ppuDataWrite_withoutTiming]
    split <;> simp [Access.mapState]
  | _ => simp [Access.mapState]

theorem busWrite_withoutTiming_ok {a : Word} {v : Byte} {s t : State} (h : busWrite a v s = .ok () t) :
    ∃ u, busWrite a v (withoutTiming s) = .ok () u ∧ withoutTiming u = withoutTiming t := by
  have hw := busWrite_withoutTiming a v s
  rw [h] at hw
  cases k : busWrite a v (withoutTiming s) with
  | ok _ u => rw [k] at hw; exact ⟨u, rfl, (Access.ok.inj hw).2⟩
  | fatal x u => rw [k] at hw; cases hw

theorem busWrite_withoutTiming_fatal {a : Word} {v : Byte} {s t : State} {x : IoError}
    (h : busWrite a v s = .fatal x t) :
    ∃ u, busWrite a v (withoutTiming s) = .fatal x u ∧ withoutTiming u = withoutTiming t := by
  have hw := busWrite_withoutTiming a v s
  rw [h] at hw
  cases k : busWrite a v (withoutTiming s) with
  | ok _ u => rw [k] at hw; cases hw
  | fatal y u =>
    rw [k] at hw
    obtain ⟨rfl, hu⟩ := Access.fatal.inj hw
    exact ⟨u, rfl, hu⟩

/-! ## Instructions without their timing -/

/-- The two outcomes are next states that differ in their timing at most. -/
def EndAlike (r r' : Host.Outcome State Fault Refusal) : Prop :=
  ∃ t t', r = .next t ∧ r' = .next t' ∧ withoutTiming t' = withoutTiming t

theorem finish_endAlike (i : Instr) (n n' : Nat) {s s' : State} (h : withoutTiming s' = withoutTiming s) :
    EndAlike (finish i n s) (finish i n' s') := ⟨_, _, rfl, rfl, h⟩

/-- The operations commute with forgetting the timing. -/
theorem finish_endAlike_of_eq (i : Instr) (n n' : Nat) {s s' : State} (h : s' = withoutTiming s) :
    EndAlike (finish i n s) (finish i n' s') := 
  finish_endAlike i n n' ((congrArg withoutTiming h).trans (withoutTiming_idem s))

theorem raiseIo_endAlike (i : Instr) (pc : Word) (x : IoError) {s s' : State}
    (h : withoutTiming s' = withoutTiming s) : EndAlike (raiseIo i pc x s) (raiseIo i pc x s') :=
  ⟨_, _, rfl, rfl, congrArg (State.halt · _) h⟩

theorem ea_withoutTiming (m : MemMode) (s : State) : m.ea (withoutTiming s) = m.ea s := by
  cases m <;> rfl

/-- A bus read that ends as `r` ends alike without the timing. -/
theorem busRead_withoutTiming_of {a : Word} {s : State} {r : Access Byte} (h : busRead a s = r) :
    busRead a (withoutTiming s) = r.mapState withoutTiming := by
  rw [busRead_withoutTiming, h]

theorem execRead_endAlike (i : Instr) (m : MemMode) {f : Byte → State → State}
    (hf : ∀ v t, f v (withoutTiming t) = withoutTiming (f v t)) (s : State) :
    EndAlike (execRead i m f s) (execRead i m f (withoutTiming s)) := by
  have hea := ea_withoutTiming m s
  cases k : busRead (m.ea s) s with
  | ok v t =>
    have hr := busRead_withoutTiming_of k
    rw [execRead_ok k, execRead_ok (hea ▸ hr)]
    exact finish_endAlike_of_eq i _ _ (hf v t)
  | fatal x t =>
    have hr := busRead_withoutTiming_of k
    rw [execRead_fatal k, execRead_fatal (hea ▸ hr)]
    exact raiseIo_endAlike i s.pc x (withoutTiming_idem t)

theorem execStore_endAlike (i : Instr) (m : MemMode) (v : Byte) (s : State) :
    EndAlike (execStore i m v s) (execStore i m v (withoutTiming s)) := by
  have hea := ea_withoutTiming m s
  cases k : busWrite (m.ea s) v s with
  | ok _ t =>
    obtain ⟨u, hu, halike⟩ := busWrite_withoutTiming_ok k
    rw [execStore_ok k, execStore_ok (hea ▸ hu)]
    exact finish_endAlike i _ _ halike
  | fatal x t =>
    obtain ⟨u, hu, halike⟩ := busWrite_withoutTiming_fatal k
    rw [execStore_fatal k, execStore_fatal (hea ▸ hu)]
    exact raiseIo_endAlike i s.pc x halike

theorem execModify_endAlike (i : Instr) (m : MemMode) (f : Byte → Byte → Byte × Byte) (s : State) :
    EndAlike (execModify i m f s) (execModify i m f (withoutTiming s)) := by
  have hea := ea_withoutTiming m s
  cases k : busRead (m.ea s) s with
  | fatal x t =>
    have hr := busRead_withoutTiming_of k
    rw [execModify_readFatal k, execModify_readFatal (hea ▸ hr)]
    exact raiseIo_endAlike i s.pc x (withoutTiming_idem t)
  | ok v t =>
    have hr := busRead_withoutTiming_of k
    cases l : busWrite (m.ea s) (f v t.p).1 (t.setP (f v t.p).2) with
    | fatal x u =>
      obtain ⟨w, hw, halike⟩ := busWrite_withoutTiming_fatal l
      rw [execModify_writeFatal k l, execModify_writeFatal (hea ▸ hr) (hea ▸ hw)]
      exact raiseIo_endAlike i s.pc x halike
    | ok _ u =>
      obtain ⟨w, hw, halike⟩ := busWrite_withoutTiming_ok l
      rw [execModify_ok k l, execModify_ok (hea ▸ hr) (hea ▸ hw)]
      exact finish_endAlike i _ _ (congrArg (fun r => r.setP (setNZ (f v t.p).1 r.p)) halike)

theorem execBranch_endAlike (i : Instr) (d : Byte) (c : Bool) (s : State) :
    EndAlike (execBranch i d c s) (execBranch i d c (withoutTiming s)) := by
  refine finish_endAlike_of_eq i _ _ ?_
  cases c <;> rfl

theorem execJumpIndirect_endAlike (i : Instr) (w : Word) (s : State) :
    EndAlike (execJumpIndirect i w s) (execJumpIndirect i w (withoutTiming s)) := by
  cases k : busRead w s with
  | fatal x t =>
    rw [execJumpIndirect_lowFatal k, execJumpIndirect_lowFatal (busRead_withoutTiming_of k)]
    exact raiseIo_endAlike i s.pc x (withoutTiming_idem t)
  | ok lo t =>
    have hr := busRead_withoutTiming_of k
    cases l : busRead (pointerHighAddress w) t with
    | fatal x u =>
      rw [execJumpIndirect_highFatal k l, execJumpIndirect_highFatal hr (busRead_withoutTiming_of l)]
      exact raiseIo_endAlike i s.pc x (withoutTiming_idem u)
    | ok hi u =>
      rw [execJumpIndirect_ok k l, execJumpIndirect_ok hr (busRead_withoutTiming_of l)]
      exact finish_endAlike_of_eq i 0 0 rfl

theorem push_withoutTiming (v : Byte) (s : State) : push v (withoutTiming s) = withoutTiming (push v s) := rfl

theorem readVector_withoutTiming (v : Word) (s : State) : readVector v (withoutTiming s) = readVector v s := rfl

theorem enterInterrupt_withoutTiming (r : Word) (st : Byte) (v : Word) (s : State) :
    enterInterrupt r st v (withoutTiming s) = withoutTiming (enterInterrupt r st v s) := by
  simp only [enterInterrupt, push16, push_withoutTiming, readVector_withoutTiming]
  rfl

theorem pop_withoutTiming (s : State) : pop (withoutTiming s) = ((pop s).1, withoutTiming (pop s).2) := rfl

theorem returnFromInterrupt_withoutTiming (s : State) :
    returnFromInterrupt (withoutTiming s) = withoutTiming (returnFromInterrupt s) := by
  have hsetP : ∀ (t : State) (p : Byte), (withoutTiming t).setP p = withoutTiming (t.setP p) := fun _ _ => rfl
  simp only [returnFromInterrupt, pop16, pop_withoutTiming, hsetP]
  rfl

theorem ldaOp_withoutTiming (v : Byte) (s : State) : ldaOp v (withoutTiming s) = withoutTiming (ldaOp v s) := rfl

theorem ldxOp_withoutTiming (v : Byte) (s : State) : ldxOp v (withoutTiming s) = withoutTiming (ldxOp v s) := rfl

theorem ldyOp_withoutTiming (v : Byte) (s : State) : ldyOp v (withoutTiming s) = withoutTiming (ldyOp v s) := rfl

theorem adcOp_withoutTiming (v : Byte) (s : State) : adcOp v (withoutTiming s) = withoutTiming (adcOp v s) := rfl

theorem sbcOp_withoutTiming (v : Byte) (s : State) : sbcOp v (withoutTiming s) = withoutTiming (sbcOp v s) := rfl

theorem andOp_withoutTiming (v : Byte) (s : State) : andOp v (withoutTiming s) = withoutTiming (andOp v s) := rfl

theorem oraOp_withoutTiming (v : Byte) (s : State) : oraOp v (withoutTiming s) = withoutTiming (oraOp v s) := rfl

theorem eorOp_withoutTiming (v : Byte) (s : State) : eorOp v (withoutTiming s) = withoutTiming (eorOp v s) := rfl

theorem bitOp_withoutTiming (v : Byte) (s : State) : bitOp v (withoutTiming s) = withoutTiming (bitOp v s) := rfl

theorem cmpOp_withoutTiming (v : Byte) (s : State) : cmpOp v (withoutTiming s) = withoutTiming (cmpOp v s) := rfl

theorem cpxOp_withoutTiming (v : Byte) (s : State) : cpxOp v (withoutTiming s) = withoutTiming (cpxOp v s) := rfl

theorem cpyOp_withoutTiming (v : Byte) (s : State) : cpyOp v (withoutTiming s) = withoutTiming (cpyOp v s) := rfl

/-- Every instruction is an operation on registers and the stack that reads no timing field, in a shape that reads none. -/
theorem exec_endAlike (i : Instr) (s : State) : EndAlike (exec i s) (exec i (withoutTiming s)) := by
  cases i with
  | ldaImm v => exact finish_endAlike_of_eq _ 0 0 (ldaOp_withoutTiming v s)
  | ldaZp _ | ldaZpx _ | ldaAbs _ | ldaAbsx _ | ldaAbsy _ | ldaIndx _ | ldaIndy _ =>
    exact execRead_endAlike _ _ ldaOp_withoutTiming s
  | ldxImm v => exact finish_endAlike_of_eq _ 0 0 (ldxOp_withoutTiming v s)
  | ldxZp _ | ldxZpy _ | ldxAbs _ | ldxAbsy _ => exact execRead_endAlike _ _ ldxOp_withoutTiming s
  | ldyImm v => exact finish_endAlike_of_eq _ 0 0 (ldyOp_withoutTiming v s)
  | ldyZp _ | ldyZpx _ | ldyAbs _ | ldyAbsx _ => exact execRead_endAlike _ _ ldyOp_withoutTiming s
  | adcImm v => exact finish_endAlike_of_eq _ 0 0 (adcOp_withoutTiming v s)
  | adcZp _ | adcZpx _ | adcAbs _ | adcAbsx _ | adcAbsy _ | adcIndx _ | adcIndy _ =>
    exact execRead_endAlike _ _ adcOp_withoutTiming s
  | sbcImm v => exact finish_endAlike_of_eq _ 0 0 (sbcOp_withoutTiming v s)
  | sbcZp _ | sbcZpx _ | sbcAbs _ | sbcAbsx _ | sbcAbsy _ | sbcIndx _ | sbcIndy _ =>
    exact execRead_endAlike _ _ sbcOp_withoutTiming s
  | andImm v => exact finish_endAlike_of_eq _ 0 0 (andOp_withoutTiming v s)
  | andZp _ | andZpx _ | andAbs _ | andAbsx _ | andAbsy _ | andIndx _ | andIndy _ =>
    exact execRead_endAlike _ _ andOp_withoutTiming s
  | oraImm v => exact finish_endAlike_of_eq _ 0 0 (oraOp_withoutTiming v s)
  | oraZp _ | oraZpx _ | oraAbs _ | oraAbsx _ | oraAbsy _ | oraIndx _ | oraIndy _ =>
    exact execRead_endAlike _ _ oraOp_withoutTiming s
  | eorImm v => exact finish_endAlike_of_eq _ 0 0 (eorOp_withoutTiming v s)
  | eorZp _ | eorZpx _ | eorAbs _ | eorAbsx _ | eorAbsy _ | eorIndx _ | eorIndy _ =>
    exact execRead_endAlike _ _ eorOp_withoutTiming s
  | bitZp _ | bitAbs _ => exact execRead_endAlike _ _ bitOp_withoutTiming s
  | cmpImm v => exact finish_endAlike_of_eq _ 0 0 (cmpOp_withoutTiming v s)
  | cmpZp _ | cmpZpx _ | cmpAbs _ | cmpAbsx _ | cmpAbsy _ | cmpIndx _ | cmpIndy _ =>
    exact execRead_endAlike _ _ cmpOp_withoutTiming s
  | cpxImm v => exact finish_endAlike_of_eq _ 0 0 (cpxOp_withoutTiming v s)
  | cpxZp _ | cpxAbs _ => exact execRead_endAlike _ _ cpxOp_withoutTiming s
  | cpyImm v => exact finish_endAlike_of_eq _ 0 0 (cpyOp_withoutTiming v s)
  | cpyZp _ | cpyAbs _ => exact execRead_endAlike _ _ cpyOp_withoutTiming s
  | staZp _ | staZpx _ | staAbs _ | staAbsx _ | staAbsy _ | staIndx _ | staIndy _ | stxZp _ | stxZpy _ | stxAbs _
  | styZp _ | styZpx _ | styAbs _ => exact execStore_endAlike _ _ _ s
  | incZp _ | incZpx _ | incAbs _ | incAbsx _ | decZp _ | decZpx _ | decAbs _ | decAbsx _ | aslZp _ | aslZpx _
  | aslAbs _ | aslAbsx _ | lsrZp _ | lsrZpx _ | lsrAbs _ | lsrAbsx _ | rolZp _ | rolZpx _ | rolAbs _ | rolAbsx _
  | rorZp _ | rorZpx _ | rorAbs _ | rorAbsx _ => exact execModify_endAlike _ _ _ s
  | bcc _ | bcs _ | beq _ | bmi _ | bne _ | bpl _ | bvc _ | bvs _ => exact execBranch_endAlike _ _ _ s
  | jmpInd _ => exact execJumpIndirect_endAlike _ _ s
  | brk => exact finish_endAlike_of_eq _ 0 0 (enterInterrupt_withoutTiming _ _ _ s)
  | rti => exact finish_endAlike_of_eq _ 0 0 (returnFromInterrupt_withoutTiming s)
  | _ =>
    refine finish_endAlike_of_eq _ 0 0 ?_
    rfl

/-- Settles O60: forgetting the timing before an instruction makes the two starts equal, and forgetting it after the
instruction gives the same. -/
theorem timingDoesNotChangeResults : Obligations.TimingDoesNotChangeResults := by
  intro i s s' t t' hs ht ht'
  obtain ⟨a, u, ha, hu, hau⟩ := exec_endAlike i s
  obtain ⟨a', u', ha', hu', hau'⟩ := exec_endAlike i s'
  cases ha.symm.trans ht
  cases ha'.symm.trans ht'
  rw [hs, hu'] at hu
  cases hu
  exact hau.symm.trans hau'

end Sys2Proof.Machine
end

section
/-! Entering and leaving (42_stack.md R180, R186; 45_control_flow.md R231 to R233, R238; 60_exceptions.md R403, R405): what
an interrupt entry leaves on the stack and elsewhere, and that the pops of a return meet the pushes of its entry for
every S. -/

namespace Sys2Proof.Machine

/-! ## The stack after an interrupt entry -/

theorem stackIndex_sub_ne {sp a b : Byte} (h : a ≠ b) : stackIndex (sp - a) ≠ stackIndex (sp - b) := by
  rw [Ne, stackIndex_inj, sub_right_inj]
  exact h

/-- PCH, PCL and the status byte lie from the old S downwards (R186, R403). -/
theorem enterInterrupt_stack (r : Word) (st : Byte) (v : Word) (s : State) :
    peek (enterInterrupt r st v s) (stackAddress s 0) = some (hiByte r) ∧
      peek (enterInterrupt r st v s) (stackAddress s 1) = some (loByte r) ∧
      peek (enterInterrupt r st v s) (stackAddress s 2) = some st := by
  have h01 : stackIndex (s.sp - 0#8) ≠ stackIndex (s.sp - 1#8) := stackIndex_sub_ne (by decide)
  have h02 : stackIndex (s.sp - 0#8) ≠ stackIndex (s.sp - 2#8) := stackIndex_sub_ne (by decide)
  have h12 : stackIndex (s.sp - 1#8) ≠ stackIndex (s.sp - 2#8) := stackIndex_sub_ne (by decide)
  have hram : (enterInterrupt r st v s).ram =
      ((s.ram.write (stackIndex (s.sp - 0#8)) (hiByte r)).write (stackIndex (s.sp - 1#8)) (loByte r)).write
        (stackIndex (s.sp - 2#8)) st := by
    rw [enterInterrupt_ram, BitVec.sub_zero, sub_sub]
    rfl
  simp only [peek_stackAddress, hram]
  refine ⟨?_, ?_, ?_⟩
  · rw [Memory.read_write_other h02, Memory.read_write_other h01, Memory.read_write_same]
  · rw [Memory.read_write_other h12, Memory.read_write_same]
  · rw [Memory.read_write_same]

theorem putFlag_i_true (p : Byte) : putFlag .i true p = p ||| 0x04 := rfl

/-- Settles O51: the request is dropped, or it is an interrupt entry with the NMI's status byte and vector. -/
theorem nmiEntry : Obligations.NmiEntry := by
  intro s
  obtain ⟨hi, hn⟩ | ⟨hi, hn⟩ := nmiRequest_cases s
  · exact ⟨fun _ => hn, fun h => nomatch hi.symm.trans h⟩
  · refine ⟨fun h => (nomatch hi.symm.trans h), fun _ => ?_⟩
    obtain ⟨h0, h1, h2⟩ := enterInterrupt_stack s.pc (statusForNmi s.p) 0xFFFA#16 s
    have hkept := enterInterrupt_keptBesideStack s.pc (statusForNmi s.p) 0xFFFA#16 s
    have hturn := enterInterrupt_turn s.pc (statusForNmi s.p) 0xFFFA#16 s
    have hinstr := enterInterrupt_keeps s.pc (statusForNmi s.p) 0xFFFA#16 s
    have hp : (enterInterrupt s.pc (statusForNmi s.p) 0xFFFA#16 s).p = s.p ||| 0x04 := by
      rw [enterInterrupt_p, putFlag_i_true]
    have hpc : (enterInterrupt s.pc (statusForNmi s.p) 0xFFFA#16 s).pc.toNat =
        (s.prgByte 0xFFFB).toNat * 256 + (s.prgByte 0xFFFA).toNat := by
      rw [enterInterrupt_pc, readVector, mkWord_toNat]
      rfl
    exact ⟨_, _, _, hn, busRead_prg s (by decide), busRead_prg s (by decide), hpc, enterInterrupt_sp .., hp, h0, h1, h2,
      hturn.a, hturn.x, hturn.y, hkept.ppu, hkept.pad, hturn.sram, hinstr.sched, hkept.cell, hturn.prg, hturn.cfg,
      enterInterrupt_run .., hkept.dmaStall, hturn.cyc⟩

/-! ## Returning -/

/-- Two bytes pushed from `s` are popped as the word they make, and S is that of `s`. -/
theorem pop16_of_peek {s u : State} {hi lo : Byte} (h0 : peek u (stackAddress s 0) = some hi)
    (h1 : peek u (stackAddress s 1) = some lo) (hsp : u.sp = s.sp - 2) :
    (pop16 u).1 = mkWord hi lo ∧ (pop16 u).2.sp = s.sp := by
  rw [peek_stackAddress, Option.some.injEq] at h0 h1
  have hlo : u.sp + 1 = s.sp - BitVec.ofNat 8 1 := by rw [hsp]; bv_omega
  have hhi : u.sp + 1 + 1 = s.sp - BitVec.ofNat 8 0 := by rw [hsp]; bv_omega
  rw [pop16_value, pop16_sp, hhi, hlo, h0, h1, BitVec.sub_zero]
  exact ⟨rfl, rfl⟩

/-- Three bytes pushed from `s` by an entry are taken back by a return from interrupt. -/
theorem returnFromInterrupt_of_peek {s u : State} {hi lo st : Byte} (h0 : peek u (stackAddress s 0) = some hi)
    (h1 : peek u (stackAddress s 1) = some lo) (h2 : peek u (stackAddress s 2) = some st) (hsp : u.sp = s.sp - 3) :
    (returnFromInterrupt u).pc = mkWord hi lo ∧ (returnFromInterrupt u).sp = s.sp ∧
      (returnFromInterrupt u).p = statusFromStack st := by
  rw [peek_stackAddress, Option.some.injEq] at h2
  have hsp' : u.sp + 1 = s.sp - 2 := by rw [hsp]; bv_omega
  obtain ⟨hpc, hsp''⟩ := pop16_of_peek (s := s) (u := (pop u).2.setP (statusFromStack (pop u).1)) h0 h1 hsp'
  refine ⟨hpc, hsp'', ?_⟩
  have hst : (pop u).1 = st := by rw [pop_value, hsp']; exact h2
  rw [← hst]
  rfl

/-- The status byte of an entry, B set or clear, comes back as P with U set and B clear (R30, R31). -/
theorem statusFromStack_of_entry (p : Byte) :
    statusFromStack (statusForBreak p) = (p &&& 0xCF) ||| 0x20 ∧
      statusFromStack (statusForNmi p) = (p &&& 0xCF) ||| 0x20 := by
  revert p
  decide

theorem return_of_enterInterrupt {s u : State} {r v : Word} {st : Byte}
    (hpeek : ∀ k, k < 3 → peek u (stackAddress s k) = peek (enterInterrupt r st v s) (stackAddress s k))
    (hsp : u.sp = (enterInterrupt r st v s).sp) :
    (returnFromInterrupt u).pc = r ∧ (returnFromInterrupt u).sp = s.sp ∧
      (returnFromInterrupt u).p = statusFromStack st := by
  obtain ⟨h0, h1, h2⟩ := enterInterrupt_stack r st v s
  rw [enterInterrupt_sp] at hsp
  have hret := returnFromInterrupt_of_peek ((hpeek 0 (by omega)).trans h0) ((hpeek 1 (by omega)).trans h1)
    ((hpeek 2 (by omega)).trans h2) hsp
  rwa [mkWord_hi_lo] at hret

/-- What completes differs from the result of its operation in the cost alone. -/
theorem finish_next {i : Instr} {n : Nat} {s t : State} (h : finish i n s = .next t) :
    (∀ a, peek t a = peek s a) ∧ t.sp = s.sp ∧ t.pc = s.pc ∧ t.p = s.p := by
  cases h
  exact ⟨fun _ => rfl, rfl, rfl, rfl⟩

theorem rts_of_jsr {w : Word} {s u : State}
    (hpeek : ∀ k, k < 2 → peek u (stackAddress s k) = peek (jsrOp w s) (stackAddress s k))
    (hsp : u.sp = (jsrOp w s).sp) : (rtsOp u).pc = s.pc ∧ (rtsOp u).sp = s.sp := by
  have hjsr : ∀ a, peek (jsrOp w s) a = peek (push16 (s.pc - 1) s) a := fun _ => rfl
  have hsp' : u.sp = s.sp - 2 := hsp.trans (show s.sp - 1 - 1 = s.sp - 2 by bv_omega)
  simp only [hjsr] at hpeek
  obtain ⟨hpc, hret⟩ := pop16_of_peek ((hpeek 0 (by omega)).trans (peek_push16_high (s.pc - 1) s))
    ((hpeek 1 (by omega)).trans (peek_push16_low (s.pc - 1) s)) hsp'
  rw [mkWord_hi_lo] at hpc
  rw [rtsOp, State.setPc_pc, State.setPc_sp, hpc, BitVec.sub_add_cancel]
  exact ⟨rfl, hret⟩

/-- Settles O56: a return reads the bytes of its entry at the addresses the entry pushed them to. -/
theorem callsAndBreaksReturn : Obligations.CallsAndBreaksReturn := by
  refine ⟨fun w s t u r ht hpeek hsp hr => ?_, fun s t u r ht hpeek hsp hr => ?_, fun s u r hi hpeek hsp hr => ?_⟩
  · obtain ⟨htpeek, htsp, -, -⟩ := finish_next ht
    obtain ⟨-, hrsp, hrpc, -⟩ := finish_next hr
    rw [hrsp, hrpc]
    exact rts_of_jsr (fun k hk => (hpeek k hk).trans (htpeek _)) (hsp.trans htsp)
  · obtain ⟨htpeek, htsp, -, -⟩ := finish_next ht
    obtain ⟨-, hrsp, hrpc, hrp⟩ := finish_next hr
    rw [hrsp, hrpc, hrp, ← (statusFromStack_of_entry s.p).1]
    exact return_of_enterInterrupt (fun k hk => (hpeek k hk).trans (htpeek _)) (hsp.trans htsp)
  · obtain ⟨-, hrsp, hrpc, hrp⟩ := finish_next hr
    obtain ⟨hset, -⟩ | ⟨-, hn⟩ := nmiRequest_cases s
    · exact nomatch hset.symm.trans hi
    · rw [hn] at hpeek hsp
      rw [hrsp, hrpc, hrp, ← (statusFromStack_of_entry s.p).2]
      exact return_of_enterInterrupt hpeek hsp

end Sys2Proof.Machine
end

section
/-! Power-on, reset and the controller (70_reset_and_hazards.md R430 to R432; 52_controller.md R384, R385, R388). -/

namespace Sys2Proof.Machine

/-! ## Power-on and reset -/

theorem Scroll.bits_zero : Scroll.zero.bits = 0 := by
  decide

theorem powerOn_vector (cfg : Config) (m : PowerOnImage) :
    busRead 0xFFFC (State.powerOn cfg m) = .ok (loByte (State.powerOn cfg m).pc) (State.powerOn cfg m) ∧
      busRead 0xFFFD (State.powerOn cfg m) = .ok (hiByte (State.powerOn cfg m).pc) (State.powerOn cfg m) := by
  rw [busRead_prg _ (by decide), busRead_prg _ (by decide), State.powerOn, loByte_mkWord, hiByte_mkWord]
  exact ⟨rfl, rfl⟩

/-- On a Running machine a reset request writes the CPU alone. -/
theorem hostReset_running {s : State} (h : s.run = .running) :
    hostReset s = .next
      ((((((s.setSp 0xFF).setA 0).setX 0).setY 0).setP 0x20).setPc (mkWord (s.prgByte 0xFFFD) (s.prgByte 0xFFFC))) := by
  obtain ⟨a, x, y, sp, p, pc, run, ram, sram, prg, ppu, pad, sched, dmaStall, cyc, cfg⟩ := s
  obtain rfl : run = .running := h
  rfl

/-- Settles O55: power-on lists its values, and the reset sequence differs from its start in the CPU alone. -/
theorem powerOnAndReset : Obligations.PowerOnAndReset := by
  refine ⟨?_, fun s hrun => ?_, fun s e hrun => ?_, rfl⟩
  · rintro cfg m _ rfl
    obtain ⟨hlo, hhi⟩ := powerOn_vector cfg m
    exact ⟨rfl, rfl, rfl, rfl, rfl, rfl, rfl, hlo, hhi, rfl, rfl, rfl, rfl, rfl, rfl, rfl, rfl, rfl, rfl, rfl, rfl, rfl,
      rfl, rfl, rfl, rfl, Scroll.bits_zero, Scroll.bits_zero, rfl, rfl, rfl, rfl, rfl, rfl⟩
  · refine ⟨_, _, busRead_prg s (by decide), busRead_prg s (by decide), ?_⟩
    rw [hostReset_running hrun, mkWord_eq_ofNat]
  · rw [hostReset, hrun]

theorem powerOn_inv {cfg : Config} {m : PowerOnImage} (hw : cfg.wf = true)
    (hm : memoryOk (State.powerOn cfg m) = true) : (State.powerOn cfg m).inv = true := by
  have hpos : 0 < cfg.cyclesPerScanline := by simpa [Config.wf] using hw
  exact (inv_iff _).mpr ⟨(by decide : statusOk 0x20 = true), hm, rfl, fun h => Nat.not_le.mpr hpos h.2, hw⟩

/-- Settles O58: at power-on the frame and the uncharged cycles are empty, and `State.reset` is a power-on. -/
theorem resetMeetsInvariant : Obligations.ResetMeetsInvariant :=
  ⟨powerOn_inv rfl rfl, fun _ _ => powerOn_inv⟩

/-! ## The controller -/

/-- A strobe of 1 then 0 resets the cursor and leaves the buttons (R385). -/
theorem padWrite_strobe {v w : Byte} (hv : v.getLsbD 0 = true) (hw : w.getLsbD 0 = false) (d : Pad) :
    padWrite w (padWrite v d) = { d with cursor := 0, prevStrobe := false } := by
  rw [padWrite, padWrite, bitOf, bitOf, hv, hw]
  rfl

theorem advanceCursor_val (c : Fin 9) : (advanceCursor c).val = min (c.val + 1) 8 := by
  unfold advanceCursor
  split
  · dsimp only
    omega
  · omega

/-- The state after one read. -/
theorem padRead_state (d : Pad) : (padRead d).2 = { d with cursor := advanceCursor d.cursor } := rfl

/-- `k` reads move the cursor `k` further, to 8 at most, and touch no button (R384). -/
theorem padRead_iterate (k : Nat) {d : Pad} (h : d.cursor = 0) :
    ((fun e => (padRead e).2)^[k] d).cursor.val = min k 8 ∧
      ((fun e => (padRead e).2)^[k] d).buttons = d.buttons := by
  induction k with
  | zero => simp [h]
  | succ k ih =>
    obtain ⟨hcursor, hbuttons⟩ := ih
    rw [Function.iterate_succ_apply', padRead_state]
    refine ⟨?_, hbuttons⟩
    rw [advanceCursor_val, hcursor]
    omega

/-- The bit read with the cursor at `k` (R384, R388). -/
theorem padRead_value {d : Pad} {k : Nat} (h : d.cursor.val = min k 8) :
    (padRead d).1 = if hk : k < 8 then (if d.buttons[k] then 0x01 else 0x00) else 0x01 := by
  unfold padRead
  by_cases hk : k < 8
  · have hval : d.cursor.val = k := by omega
    have hlt : d.cursor.val < 8 := by omega
    simp only [hval, dif_pos hk]
  · have hge : ¬d.cursor.val < 8 := by omega
    rw [dif_neg hge, dif_neg hk]

/-- Settles O54: after the strobe the cursor counts the reads. -/
theorem controllerSequence : Obligations.ControllerSequence := by
  intro d v w k hv hw
  rw [padWrite_strobe hv hw]
  obtain ⟨hcursor, hbuttons⟩ := padRead_iterate k (d := { d with cursor := 0, prevStrobe := false }) rfl
  exact ⟨by rw [padRead_value hcursor, hbuttons], hbuttons⟩

end Sys2Proof.Machine
end

section
/-! The scheduler and the scanlines without pixels (53_frame_scheduler.md R391, R392; 51_ppu_rendering.md R340 to R344;
60_exceptions.md R404, R411). The loop's result does not depend on its fuel once the fuel is above `turnBudget`, so a
turn can be taken off and the fuel counted anew from the state after it. -/

namespace Sys2Proof.Machine

/-! ## The fuel of the loop -/

theorem lineDone_or_more (s : State) :
    LineDone s ∨ (s.run = .running ∧ s.cfg.cyclesPerScanline ≤ s.sched.acc) := by
  unfold LineDone
  exact (Decidable.em _).symm

/-- The loop's result is the same for every fuel above the budget. -/
theorem renderLines_fuel {n m : Nat} {s : State} (hw : s.cfg.wf = true) (hn : turnBudget s < n)
    (hm : turnBudget s < m) : renderLines n s = renderLines m s := by
  induction n generalizing m s with
  | zero => omega
  | succ n ih =>
    obtain hdone | hmore := lineDone_or_more s
    · rw [renderLines_of_done hdone, renderLines_of_done hdone]
    · obtain ⟨m, rfl⟩ : ∃ k, m = k + 1 := ⟨m - 1, by omega⟩
      have hlower := turnBudget_renderOneLine hw hmore.2
      rw [renderLines, renderLines, if_pos hmore, if_pos hmore]
      exact ih (by rwa [(renderOneLine_keeps s).cfg]) (by omega) (by omega)

/-- Settles O53: `lineFuel` is above the budget, and above it the loop ends with nothing left to charge. -/
theorem schedulerLoopEnds : Obligations.SchedulerLoopEnds := by
  intro s n hw hn
  have hbudget := turnBudget_lt_lineFuel s
  refine ⟨renderLines_fuel hw (by omega) hbudget, fun hrun => ?_⟩
  have hdone := renderLines_lineDone (n := n) hw (by omega)
  rw [← (renderLines_keeps n s).cfg]
  exact Nat.lt_of_not_le fun hle => hdone ⟨hrun, hle⟩

/-! ## One turn -/

theorem renderLines_lineFuel_of_more {s : State} (hmore : s.run = .running ∧ s.cfg.cyclesPerScanline ≤ s.sched.acc) :
    renderLines (lineFuel s) s = renderLines (s.sched.acc + nmiCycles) (renderOneLine s) :=
  if_pos hmore

theorem renderOneLine_of_fatal {s : State} (h : renderScanline s.cfg s.sched.line.val s.ppu = .fatal) :
    renderOneLine s =
      (s.setSched { s.sched with acc := s.sched.acc - s.cfg.cyclesPerScanline }).setRun
        (.halted (.unimplementedAddressingEdgeCase s.sched.line.val)) := by
  simp only [renderOneLine, h]
  rfl

theorem renderOneLine_of_done {s : State} {q : Ppu}
    (h : renderScanline s.cfg s.sched.line.val s.ppu = .done q false) :
    renderOneLine s =
      (s.setPpu q).setSched { line := s.sched.line + 1, acc := s.sched.acc - s.cfg.cyclesPerScanline } := by
  simp only [renderOneLine, h]
  rfl

theorem renderOneLine_of_nmi {s u : State} {q : Ppu}
    (h : renderScanline s.cfg s.sched.line.val s.ppu = .done q true)
    (hu : u = (s.setPpu q).setSched { line := s.sched.line + 1, acc := s.sched.acc - s.cfg.cyclesPerScanline }) :
    renderOneLine s = (nmiRequest u).1.setSched { line := u.sched.line, acc := u.sched.acc + (nmiRequest u).2 } := by
  have hturn : renderOneLine s = (nmiRequest u).1.setSched
      { (nmiRequest u).1.sched with acc := (nmiRequest u).1.sched.acc + (nmiRequest u).2 } := by
    subst hu
    simp only [renderOneLine, h]
    rfl
  rw [hturn, nmiRequest_sched]

theorem nmiRequest_cycles_le (s : State) : (nmiRequest s).2 ≤ 7 := by
  obtain ⟨-, h⟩ | ⟨-, h⟩ := nmiRequest_cases s
  · rw [h]
    omega
  · exact Nat.le_of_eq (congrArg Prod.snd h)

/-! ## Charging an instruction -/

/-- The state with the instruction's cost added to the uncharged cycles (R391). -/
def addCost (s : State) : State := s.setSched { s.sched with acc := s.sched.acc + s.cyc }

theorem chargeCycles_of_running {s : State} (h : s.run = .running) :
    chargeCycles s = renderLines (lineFuel (addCost s)) (addCost s) :=
  if_pos h

theorem chargeCycles_of_few {s : State} (h : s.run = .running)
    (hfew : s.sched.acc + s.cyc < s.cfg.cyclesPerScanline) : chargeCycles s = addCost s := by
  rw [chargeCycles_of_running h]
  exact renderLines_of_done (fun hmore => Nat.not_le.mpr hfew hmore.2) _

/-- With a scanline of cycles left and nothing left after one turn, the turn is all that happens. -/
theorem chargeCycles_of_oneTurn {s t : State} (h : s.run = .running)
    (hmore : s.cfg.cyclesPerScanline ≤ s.sched.acc + s.cyc) (ht : renderOneLine (addCost s) = t) (hdone : LineDone t) :
    chargeCycles s = t := by
  have hmore' : (addCost s).run = .running ∧ (addCost s).cfg.cyclesPerScanline ≤ (addCost s).sched.acc := ⟨h, hmore⟩
  rw [chargeCycles_of_running h, renderLines_lineFuel_of_more hmore', ht, renderLines_of_done hdone]

/-- Settles O52: the loop turn by turn, and the first turn after an instruction by what its line ends in. -/
theorem schedulerChargesLines : Obligations.SchedulerChargesLines := by
  intro s
  refine ⟨fun e hrun => chargeCycles_of_halted hrun, chargeCycles_of_few, fun q hrun hmore hless hline => ?_,
    fun q u hrun hmore hless hline hu => ?_, fun hrun hmore hline => ?_, chargeCycles_of_running, fun hstop => ?_,
    fun hw hrun hmore => ?_, renderOneLine_of_fatal, fun q => renderOneLine_of_done, fun q u => renderOneLine_of_nmi⟩
  · refine chargeCycles_of_oneTurn hrun hmore (renderOneLine_of_done hline) fun hleft => ?_
    have hle : s.cfg.cyclesPerScanline ≤ s.sched.acc + s.cyc - s.cfg.cyclesPerScanline := hleft.2
    omega
  · have hturn : renderOneLine (addCost s) =
        (nmiRequest u).1.setSched { line := u.sched.line, acc := u.sched.acc + (nmiRequest u).2 } :=
      renderOneLine_of_nmi hline hu
    refine chargeCycles_of_oneTurn hrun hmore hturn fun hleft => ?_
    have hle : (nmiRequest u).1.cfg.cyclesPerScanline ≤ u.sched.acc + (nmiRequest u).2 := hleft.2
    have hcycles := nmiRequest_cycles_le u
    have hucfg : u.cfg = s.cfg := by rw [hu]; rfl
    have hcfg : (nmiRequest u).1.cfg = s.cfg := (nmiRequest_turn u).cfg.trans hucfg
    have hacc : u.sched.acc = s.sched.acc + s.cyc - s.cfg.cyclesPerScanline := by rw [hu]; rfl
    rw [hcfg] at hle
    omega
  · rw [chargeCycles_of_oneTurn hrun hmore (renderOneLine_of_fatal hline) fun hleft => nomatch hleft.1]
    rfl
  · refine renderLines_of_done (fun hmore => ?_) _
    obtain hrun | hfew := hstop
    · exact hrun hmore.1
    · omega
  · have hlower := turnBudget_renderOneLine hw hmore
    have hbudget := turnBudget_lt_lineFuel s
    rw [renderLines_lineFuel_of_more ⟨hrun, hmore⟩]
    refine renderLines_fuel (by rwa [(renderOneLine_keeps s).cfg]) ?_ (turnBudget_lt_lineFuel _)
    unfold lineFuel at hbudget
    omega

/-! ## The scanlines outside the picture -/

theorem renderingEnabled_iff (p : Ppu) :
    renderingEnabled p = true ↔ p.mask.getLsbD 3 = true ∨ p.mask.getLsbD 4 = true := Bool.or_eq_true_iff

theorem renderScanline_zero (cfg : Config) (p : Ppu) :
    renderScanline cfg 0 p = .done { p with spr0Hit := false, sprOvf := false } false := rfl

theorem renderScanline_20 (cfg : Config) (p : Ppu) :
    renderScanline cfg 20 p =
      .done { p with vblank := false, cnt := if renderingEnabled p then p.reg else p.cnt } false := rfl

theorem renderScanline_261 (cfg : Config) (p : Ppu) :
    renderScanline cfg 261 p = .done { p with vblank := true } (p.ctrl.getLsbD 7) := rfl

theorem renderScanline_idle (cfg : Config) {l : Nat} (h : 1 ≤ l) (h' : l ≤ 19) (p : Ppu) :
    renderScanline cfg l p = .done p false := by
  rw [renderScanline, if_neg (by omega), if_neg (by omega), if_neg (by omega), if_neg (by omega)]

/-- Settles O46: each line outside 21 to 260 by its rule, and the NMI by `renderScanline_nmi`. -/
theorem scanlineEvents : Obligations.ScanlineEvents := by
  intro cfg p
  refine ⟨renderScanline_zero cfg p, fun l h h' => renderScanline_idle cfg h h' p, fun hshown => ?_,
    fun hbg hspr => ?_, renderScanline_261 cfg p, fun l q => renderScanline_nmi⟩
  · rw [renderScanline_20, if_pos ((renderingEnabled_iff p).mpr hshown)]
  · rw [renderScanline_20, if_neg (by rw [renderingEnabled_iff, hbg, hspr]; decide)]

end Sys2Proof.Machine
end

section
/-! Sprite selection, the overflow flag and sprite-0 hit (51_ppu_rendering.md R356, R357, R365). -/

namespace Sys2Proof.Machine

/-! ## The sprites of a row -/

theorem covers_iff {p : Ppu} {y i : Nat} :
    covers p y i = true ↔ (p.oam.read (4 * i)).toNat + 1 ≤ y ∧ y ≤ (p.oam.read (4 * i)).toNat + 8 := by
  simp [covers, oamByte]

theorem mem_coveringSprites {p : Ppu} {y i : Nat} : i ∈ coveringSprites p y ↔ i < 64 ∧ covers p y i = true := by
  simp [coveringSprites]

theorem coveringSprites_ascend (p : Ppu) (y : Nat) : (coveringSprites p y).Pairwise (· < ·) :=
  List.pairwise_lt_range.filter _

theorem mem_coveringSprites_of_selected {p : Ppu} {y i : Nat} (h : i ∈ selectedSprites p y) :
    i ∈ coveringSprites p y := List.mem_of_mem_take h

/-- A covering sprite that is not selected comes after eight selected ones. -/
theorem selectedSprites_before_leftOut {p : Ppu} {y i : Nat} (hi : i ∈ coveringSprites p y)
    (hout : i ∉ selectedSprites p y) :
    (selectedSprites p y).length = 8 ∧ ∀ j, j ∈ selectedSprites p y → j < i := by
  have hsplit : selectedSprites p y ++ (coveringSprites p y).drop 8 = coveringSprites p y := List.take_append_drop ..
  have hdrop : i ∈ (coveringSprites p y).drop 8 :=
    (List.mem_append.mp (by rwa [hsplit])).resolve_left hout
  refine ⟨?_, fun j hj => ?_⟩
  · have hlong : 0 < ((coveringSprites p y).drop 8).length := List.length_pos_of_mem hdrop
    rw [List.length_drop] at hlong
    rw [selectedSprites, List.length_take]
    omega
  · have hascend := coveringSprites_ascend p y
    rw [← hsplit, List.pairwise_append] at hascend
    exact hascend.2.2 j hj i hdrop

theorem covers_eq_decide (p : Ppu) (y : Nat) :
    covers p y = fun i => decide ((p.oam.read (4 * i)).toNat + 1 ≤ y ∧ y ≤ (p.oam.read (4 * i)).toNat + 8) := by
  funext i
  rw [Bool.eq_iff_iff, covers_iff, decide_eq_true_iff]

theorem sprOvf_renderLine (cfg : Config) (p : Ppu) (y : Nat) :
    (renderLine cfg p y).sprOvf = true ↔ p.sprOvf = true ∨ 8 < (coveringSprites p y).length := by
  rw [renderLine, Bool.or_eq_true, spriteOverflow, decide_eq_true_iff]

/-- Settles O48: the covering sprites ascend, and the selected ones are the first eight of them. -/
theorem spriteSelection : Obligations.SpriteSelection := by
  intro cfg p y
  refine ⟨List.length_take_le .., (coveringSprites_ascend p y).sublist (List.take_sublist ..), fun i hi => ?_,
    fun i hlt htop hbottom hout => ?_, ?_⟩
  · obtain ⟨hlt, hcovers⟩ := mem_coveringSprites.mp (mem_coveringSprites_of_selected hi)
    exact ⟨hlt, covers_iff.mp hcovers⟩
  · exact selectedSprites_before_leftOut (mem_coveringSprites.mpr ⟨hlt, covers_iff.mpr ⟨htop, hbottom⟩⟩) hout
  · rw [← covers_eq_decide]
    exact sprOvf_renderLine cfg p y

/-! ## Sprite-0 hit -/

theorem selectedSprites_of_covers_zero {p : Ppu} {y : Nat} (h : covers p y 0 = true) :
    ∃ rest, selectedSprites p y = 0 :: rest := by
  rw [selectedSprites, coveringSprites, List.range_succ_eq_map, List.filter_cons_of_pos h]
  exact ⟨_, rfl⟩

theorem spritesShown_iff {mask : Byte} {x : Nat} :
    spritesShown mask x = true ↔ mask.getLsbD 4 = true ∧ (x < 8 → mask.getLsbD 2 = true) := by
  simp [spritesShown, bitOf, Decidable.imp_iff_not_or, -not_lt]

theorem bgHidden_eq_false_iff {mask : Byte} {x : Nat} :
    bgHidden mask x = false ↔ mask.getLsbD 3 = true ∧ (x < 8 → mask.getLsbD 1 = true) := by
  simp [bgHidden, bitOf]

/-- Sprite 0 wins a column exactly when sprites are shown there, it covers the row and its pixel is opaque: it is the
first of the row's sprites. -/
theorem winningSprite_eq_zero_iff {cfg : Config} {p : Ppu} {x y : Nat} :
    winningSprite cfg p (selectedSprites p y) x y = some 0 ↔
      spritesShown p.mask x = true ∧ covers p y 0 = true ∧ spritePixel cfg p 0 x y ≠ 0 := by
  unfold winningSprite
  constructor
  · intro h
    split_ifs at h with hshown
    have hopaque := List.find?_some h
    have hcovers := (mem_coveringSprites.mp (mem_coveringSprites_of_selected (List.mem_of_find?_eq_some h))).2
    exact ⟨hshown, hcovers, bne_iff_ne.mp hopaque⟩
  · rintro ⟨hshown, hcovers, hopaque⟩
    obtain ⟨rest, hsel⟩ := selectedSprites_of_covers_zero hcovers
    rw [if_pos hshown, hsel]
    exact List.find?_cons_of_pos (bne_iff_ne.mpr hopaque)

/-- An opaque background pixel of the line is one that is shown. -/
theorem bgHidden_of_opaque {cfg : Config} {p : Ppu} {x : Nat} {bg : BgPixel}
    (h : (backgroundLine cfg p)[x]? = some bg) (hopaque : bg.1 ≠ 0) : bgHidden p.mask x = false := by
  rw [backgroundLine, List.getElem?_mapIdx] at h
  obtain ⟨q, -, rfl⟩ := Option.map_eq_some_iff.mp h
  by_contra hhidden
  rw [if_pos (Bool.not_eq_false _ ▸ hhidden)] at hopaque
  exact hopaque rfl

theorem column_lt {cfg : Config} {p : Ppu} {x : Nat} {bg : BgPixel} (h : (backgroundLine cfg p)[x]? = some bg) :
    x < 256 := by
  rw [← backgroundLine_length cfg p]
  exact (List.getElem?_eq_some_iff.mp h).1

theorem hitsSprite0_iff {cfg : Config} {p : Ppu} {x y : Nat} {bg : BgPixel} :
    hitsSprite0 p (winningSprite cfg p (selectedSprites p y) x y) bg x = true ↔
      (spritesShown p.mask x = true ∧ covers p y 0 = true ∧ spritePixel cfg p 0 x y ≠ 0) ∧ bg.1 ≠ 0 ∧
        p.mask.getLsbD 3 = true ∧ x ≠ 255 := by
  simp only [hitsSprite0, Bool.and_eq_true, beq_iff_eq, bne_iff_ne, winningSprite_eq_zero_iff, and_assoc, bitOf]
  rfl

theorem rowHitsSprite0_iff {cfg : Config} {p : Ppu} {y : Nat} :
    rowHitsSprite0 cfg p y = true ↔ ∃ x bg, (backgroundLine cfg p)[x]? = some bg ∧
      hitsSprite0 p (winningSprite cfg p (selectedSprites p y) x y) bg x = true := by
  rw [rowHitsSprite0, List.any_eq_true]
  simp only [id, exists_eq_right, List.mem_iff_getElem?, List.getElem?_mapIdx, Option.map_eq_some_iff]

/-- Settles O49: the hit of a column by `hitsSprite0_iff`; an opaque background pixel is a shown one. -/
theorem spriteZeroHit : Obligations.SpriteZeroHit := by
  intro cfg p y
  rw [renderLine, Bool.or_eq_true, rowHitsSprite0_iff]
  refine or_congr_right ⟨?_, ?_⟩
  · rintro ⟨x, bg, hbg, hhit⟩
    obtain ⟨⟨hshown, hcovers, hopaque⟩, hbackground, hshowBg, hx⟩ := hitsSprite0_iff.mp hhit
    obtain ⟨hshowSpr, hsprLeft⟩ := spritesShown_iff.mp hshown
    obtain ⟨-, hbgLeft⟩ := bgHidden_eq_false_iff.mp (bgHidden_of_opaque hbg hbackground)
    obtain ⟨htop, hbottom⟩ := covers_iff.mp hcovers
    have hlt := column_lt hbg
    exact ⟨hshowBg, hshowSpr, htop, hbottom, x, bg, by omega, fun hx => ⟨hbgLeft hx, hsprLeft hx⟩, hbg, hbackground,
      hopaque⟩
  · rintro ⟨hshowBg, hshowSpr, htop, hbottom, x, bg, hx, hleft, hbg, hbackground, hopaque⟩
    refine ⟨x, bg, hbg, hitsSprite0_iff.mpr ⟨⟨spritesShown_iff.mpr ⟨hshowSpr, fun hx => (hleft hx).2⟩,
      covers_iff.mpr ⟨htop, hbottom⟩, hopaque⟩, hbackground, hshowBg, by omega⟩⟩

end Sys2Proof.Machine
end

section
/-! Pixels in numbers (51_ppu_rendering.md R349, R351, R358 to R363). An address is `BitVec.ofNat 16` of its number
(`eq_ofNat_of_toNat`). -/

namespace Sys2Proof.Machine

theorem eq_ofNat_of_toNat {w n : Nat} {a : BitVec w} (h : a.toNat = n) : a = BitVec.ofNat w n := by
  rw [← h, BitVec.ofNat_toNat, BitVec.setWidth_eq]

/-! ## Colours -/

/-- The colour of a palette byte in numbers: bits 5 and 4 alone when grey, bits 5 to 0 otherwise (R349). -/
theorem pixelAt_eq (cfg : Config) (p : Ppu) (a : Word) :
    pixelAt cfg p a =
      BitVec.ofNat 6 ((ppuRead cfg p a).toNat &&& (if p.mask.getLsbD 0 then 0x30 else 0x3F)) := by
  have key : ∀ v : Byte, v.extractLsb' 0 6 &&& 0x30#6 = BitVec.ofNat 6 (v.toNat &&& 0x30) ∧
      v.extractLsb' 0 6 = BitVec.ofNat 6 (v.toNat &&& 0x3F) := by decide
  obtain ⟨hgrey, hcolour⟩ := key (ppuRead cfg p a)
  unfold pixelAt grey bitOf
  split_ifs
  · exact hgrey
  · exact hcolour

/-! ## Pattern pixels -/

theorem planes_patternValue (cfg : Config) (p : Ppu) {a : Word} {base : Nat} (h : a.toNat = base) (b : Nat) :
    planes (bitOf (ppuRead cfg p (a + 8)) b) (bitOf (ppuRead cfg p a) b) =
      BitVec.ofNat 2 (patternValue cfg p base b) := by
  have ha : a = BitVec.ofNat 16 base := eq_ofNat_of_toNat h
  have ha8 : a + 8 = BitVec.ofNat 16 (base + 8) := by rw [ha, BitVec.ofNat_add]; rfl
  rw [planes_eq, bitOf_toNat, bitOf_toNat, ha8, ha, patternValue]

theorem patternValue_lt (cfg : Config) (p : Ppu) (base b : Nat) : patternValue cfg p base b < 4 := by
  unfold patternValue
  omega

theorem spritePixel_of_outside {cfg : Config} {p : Ppu} {i x y : Nat}
    (h : ¬((oamByte p i 3).toNat ≤ x ∧ x ≤ (oamByte p i 3).toNat + 7)) : spritePixel cfg p i x y = 0 :=
  if_pos (by omega)

/-- The pattern row of a sprite at the row `y`, flipped by bit 7 of its third OAM byte (R358). -/
def spriteRow (p : Ppu) (i y : Nat) : Nat :=
  let row := y - ((oamByte p i 0).toNat + 1)
  if (oamByte p i 2).getLsbD 7 then 7 - row else row

/-- The bit of a sprite's pattern row at column `x`, flipped by bit 6 of its third OAM byte (R358). -/
def spriteColumn (p : Ppu) (i x : Nat) : Nat :=
  let c := x - (oamByte p i 3).toNat
  if (oamByte p i 2).getLsbD 6 then c else 7 - c

theorem spriteRow_lt {p : Ppu} {i y : Nat} (hbottom : y ≤ (oamByte p i 0).toNat + 8) : spriteRow p i y < 8 := by
  unfold spriteRow
  dsimp only
  split_ifs
  · omega
  · omega

theorem spritePixel_of_inside {cfg : Config} {p : Ppu} {i x y : Nat}
    (h : (oamByte p i 3).toNat ≤ x ∧ x ≤ (oamByte p i 3).toNat + 7) (hbottom : y ≤ (oamByte p i 0).toNat + 8) :
    spritePixel cfg p i x y = BitVec.ofNat 2 (patternValue cfg p
      ((if p.ctrl.getLsbD 3 then 0x1000 else 0) + (oamByte p i 1).toNat * 16 + spriteRow p i y) (spriteColumn p i x)) := by
  have hrow : (BitVec.ofNat 16 (spriteRow p i y)).toNat = spriteRow p i y :=
    Nat.mod_eq_of_lt (by have := spriteRow_lt hbottom; omega)
  have hbase := patternAddress_toNat (p.ctrl.getLsbD 3) (oamByte p i 1)
    (r := BitVec.ofNat 16 (spriteRow p i y)) (by rw [hrow]; exact spriteRow_lt hbottom)
  rw [hrow] at hbase
  exact (if_neg (by omega)).trans (planes_patternValue cfg p hbase _)

theorem spritePixel_toNat {cfg : Config} {p : Ppu} {i x y : Nat} (hbottom : y ≤ (oamByte p i 0).toNat + 8) :
    (spritePixel cfg p i x y).toNat = spriteValue cfg p i x y := by
  by_cases h : (oamByte p i 3).toNat ≤ x ∧ x ≤ (oamByte p i 3).toNat + 7
  · rw [spritePixel_of_inside h hbottom, BitVec.toNat_ofNat, Nat.mod_eq_of_lt (patternValue_lt ..)]
    exact (if_pos h).symm
  · rw [spritePixel_of_outside h]
    exact (if_neg h).symm

/-! ## The pixel's palette address -/

theorem paletteAddress_eq (base : Nat) (palette value : BitVec 2) :
    BitVec.ofNat 16 base + 4#16 * palette.setWidth 16 + value.setWidth 16 =
      BitVec.ofNat 16 (base + 4 * palette.toNat + value.toNat) := by
  rw [BitVec.ofNat_add, BitVec.ofNat_add, BitVec.ofNat_mul, BitVec.ofNat_toNat, BitVec.ofNat_toNat]

theorem pixelAddress_none (cfg : Config) (p : Ppu) (bg : BgPixel) (x y : Nat) :
    pixelAddress cfg p none bg x y =
      BitVec.ofNat 16 (if bg.1 = 0 then 0x3F00 else 0x3F00 + 4 * bg.2.toNat + bg.1.toNat) := by
  unfold pixelAddress
  by_cases h : bg.1 = 0
  · rw [if_pos h, if_neg (by simp [h])]
  · rw [if_neg h]
    exact (if_pos (bne_iff_ne.mpr h)).trans (paletteAddress_eq 0x3F00 bg.2 bg.1)

/-- The winner's palette colour where it is in front or the background is transparent, the opaque background's
elsewhere (R362). -/
theorem pixelAddress_some (cfg : Config) (p : Ppu) (i : Nat) (bg : BgPixel) (x y : Nat) :
    pixelAddress cfg p (some i) bg x y = BitVec.ofNat 16
      (if (oamByte p i 2).getLsbD 5 = false ∨ bg.1 = 0 then
        0x3F10 + 4 * ((oamByte p i 2).toNat % 4) + (spritePixel cfg p i x y).toNat
      else 0x3F00 + 4 * bg.2.toNat + bg.1.toNat) := by
  have hcases : pixelAddress cfg p (some i) bg x y =
      if (oamByte p i 2).getLsbD 5 = false ∨ bg.1 = 0 then
        0x3F10#16 + 4#16 * ((oamByte p i 2).extractLsb' 0 2).setWidth 16 + (spritePixel cfg p i x y).setWidth 16
      else pixelAddress cfg p none bg x y := by
    unfold pixelAddress bitOf
    simp
  have hpalette : ((oamByte p i 2).extractLsb' 0 2).toNat = (oamByte p i 2).toNat % 4 := by
    rw [extractLsb'_eq_ofNat, BitVec.toNat_ofNat, Nat.pow_zero, Nat.div_one]
  rw [hcases, pixelAddress_none, paletteAddress_eq 0x3F10, hpalette]
  by_cases h : (oamByte p i 2).getLsbD 5 = false ∨ bg.1 = 0
  · rw [if_pos h, if_pos h]
  · rw [if_neg h, if_neg h, if_neg (not_or.mp h).2]

/-! ## The winning sprite -/

theorem winningSprite_of_first {cfg : Config} {p : Ppu} {before after : List Nat} {i x y : Nat}
    (hshown : spritesShown p.mask x = true) (hbefore : ∀ j, j ∈ before → spritePixel cfg p j x y = 0)
    (hopaque : spritePixel cfg p i x y ≠ 0) :
    winningSprite cfg p (before ++ i :: after) x y = some i := by
  have hnone : before.find? (fun j => spritePixel cfg p j x y != 0#2) = none :=
    List.find?_eq_none.mpr fun j hj => by rw [hbefore j hj]; decide
  rw [winningSprite, if_pos hshown, List.find?_append, hnone, Option.none_or]
  exact List.find?_cons_of_pos (p := fun j => spritePixel cfg p j x y != 0#2) (bne_iff_ne.mpr hopaque)

theorem winningSprite_of_none {cfg : Config} {p : Ppu} {sel : List Nat} {x y : Nat}
    (h : spritesShown p.mask x = true → ∀ j, j ∈ sel → spritePixel cfg p j x y = 0) :
    winningSprite cfg p sel x y = none := by
  unfold winningSprite
  split_ifs with hshown
  · exact List.find?_eq_none.mpr fun j hj => by rw [h hshown j hj]; decide
  · rfl

/-- Settles O50: the winner by `winningSprite_of_first` and `winningSprite_of_none`, its address by `pixelAddress_some`
and `pixelAddress_none`. -/
theorem pixelPriority : Obligations.PixelPriority := by
  intro cfg p bg x y
  refine ⟨fun hshow hleft i before after hsel hbefore hopaque => ?_, fun hhidden => ?_,
    fun i htop hbottom => spritePixel_toNat hbottom⟩
  · have hwinner := winningSprite_of_first (after := after) (spritesShown_iff.mpr ⟨hshow, hleft⟩) hbefore hopaque
    rw [hsel, composePixel, hwinner, pixelAt_eq, pixelAddress_some]
    rfl
  · have hnone : winningSprite cfg p (selectedSprites p y) x y = none := by
      refine winningSprite_of_none fun hshown => ?_
      obtain ⟨hshow, hleft⟩ := spritesShown_iff.mp hshown
      obtain hoff | ⟨hx, hoff⟩ | hclear := hhidden
      · exact absurd hshow (Bool.eq_false_iff.mp hoff)
      · exact absurd (hleft hx) (Bool.eq_false_iff.mp hoff)
      · exact hclear
    rw [composePixel, hnone, pixelAt_eq, pixelAddress_none]

end Sys2Proof.Machine
end

section
/-! The visible lines (51_ppu_rendering.md R345 to R350; 50_ppu_registers.md R330 to R333). -/

namespace Sys2Proof.Machine

/-! ## The background of a line -/

/-- The pattern base and the palette number of the tile at the counters, in numbers (R330 to R333). -/
theorem tilePixels_getElem? (cfg : Config) (p : Ppu) (c : Scroll) {k : Nat} (hk : k < 8) :
    (tilePixels cfg p c)[k]? = some
      (BitVec.ofNat 2 (patternValue cfg p ((if p.ctrl.getLsbD 4 then 0x1000 else 0) +
          (ppuRead cfg p (nametableAddress c)).toNat * 16 + c.fv.toNat) (7 - k)),
        paletteSelectBits c (ppuRead cfg p (attributetableAddress c))) := by
  have hpattern := patterntableAddress_toNat p.ctrl c (ppuRead cfg p (nametableAddress c))
  rw [tilePixels, List.getElem?_map, List.getElem?_range hk, ← planes_patternValue cfg p hpattern]
  rfl

theorem backgroundLine_getElem? (cfg : Config) (p : Ppu) {x : Nat} (hx : x < 256) :
    (backgroundLine cfg p)[x]? =
      ((tilePixels cfg p (advanceTiles ((x + p.regFH.toNat) / 8) p.cnt))[(x + p.regFH.toNat) % 8]?).map
        fun q => if bgHidden p.mask x then (0#2, q.2) else q := by
  have hfh := p.regFH.isLt
  rw [backgroundLine, List.getElem?_mapIdx, List.getElem?_take_of_lt hx, List.getElem?_drop, Nat.add_comm _ x,
    tileRun_getElem? cfg p 33 p.cnt (by omega)]

/-- The column of a scroll position, split into its name table and its tile. -/
theorem column_split {c : Scroll} {column : Nat} (h : c.h.toNat * 32 + c.ht.toNat = column) :
    c.h.toNat = column / 32 ∧ c.ht.toNat = column % 32 := by
  have := c.ht.isLt
  omega

theorem bgHidden_eq (mask : Byte) (x : Nat) :
    bgHidden mask x = !(mask.getLsbD 3 && (decide (8 ≤ x) || mask.getLsbD 1)) := by
  have h : decide (x < 8) = !decide (8 ≤ x) := by
    rw [← decide_not, decide_eq_decide]
    omega
  rw [bgHidden, h, Bool.not_and, Bool.not_or]
  rfl

/-- A name table's bytes of palette numbers begin 0x3C0 after it (R331). -/
theorem attributetableAddress_eq (c : Scroll) :
    attributetableAddress c = BitVec.ofNat 16
      (0x2000 + c.v.toNat * 0x800 + c.h.toNat * 0x400 + 0x3C0 + c.vt.toNat / 4 * 8 + c.ht.toNat / 4) :=
  eq_ofNat_of_toNat (by rw [attributetableAddress_toNat]; omega)

theorem blanked_eq (shown : Bool) (value palette : BitVec 2) :
    (if !shown then (0#2, palette) else (value, palette)) = (if shown then value else 0#2, palette) := by
  cases shown <;> rfl

/-- The background pixel of a column is the one of its tile: the tile is `(x + regFH) / 8` steps from the counters, so
its name table and its column in it are those of `advanceTiles_column`. -/
theorem backgroundLine_eq (cfg : Config) (p : Ppu) {x : Nat} (hx : x < 256) :
    (backgroundLine cfg p)[x]? = some (backgroundPixel cfg p x) := by
  have hmod : (x + p.regFH.toNat) % 8 < 8 := Nat.mod_lt _ (by omega)
  obtain ⟨hh, hht⟩ := column_split (advanceTiles_column ((x + p.regFH.toNat) / 8) p.cnt)
  obtain ⟨hfv, hv, hvt⟩ := advanceTiles_vertical ((x + p.regFH.toNat) / 8) p.cnt
  rw [backgroundLine_getElem? cfg p hx, tilePixels_getElem? cfg p _ hmod, paletteSelectBits_eq,
    eq_ofNat_of_toNat (nametableAddress_toNat _), attributetableAddress_eq, bgHidden_eq, hh, hht, hfv, hv, hvt,
    Option.map_some]
  exact congrArg some (blanked_eq ..)

/-! ## The counters of a line -/

theorem incVertical_of_ne {c : Scroll} (h : c.fv ≠ 7) : incVertical c = { c with fv := c.fv + 1 } := if_neg h

/-- At the last pixel row of a tile, VT advances modulo 32, or wraps at 30 into V. -/
theorem incVertical_of_eq {c : Scroll} (h : c.fv = 7) :
    incVertical c =
      if c.vt = 29 then { c with fv := 0, vt := 0, v := c.v + 1 } else { c with fv := 0, vt := c.vt + 1 } := by
  have hv : c.v ^^^ 1 = c.v + 1 := (by decide : ∀ v : BitVec 1, v ^^^ 1 = v + 1) c.v
  rw [incVertical, if_pos h]
  by_cases h29 : c.vt = 29
  · rw [if_pos h29, if_pos h29, ← hv]
  · rw [if_neg h29, if_neg h29]
    by_cases h31 : c.vt = 31
    · rw [if_pos h31, h31]
      rfl
    · rw [if_neg h31]

/-- The vertical step reads no horizontal counter, and the reload overwrites both. -/
theorem reloadHorizontal_incVertical (r c : Scroll) (h : BitVec 1) (ht : BitVec 5) :
    reloadHorizontal r (incVertical { c with h := h, ht := ht }) = reloadHorizontal r (incVertical c) := by
  unfold incVertical
  dsimp only
  split_ifs <;> rfl

/-- So the step of a position with the same vertical counters ends the line in the same counters. -/
theorem reloadHorizontal_incVertical_of_vertical (r : Scroll) {c d : Scroll} (hfv : d.fv = c.fv) (hv : d.v = c.v)
    (hvt : d.vt = c.vt) : reloadHorizontal r (incVertical d) = reloadHorizontal r (incVertical c) := by
  have hsame : d = { c with h := d.h, ht := d.ht } := by rw [← hfv, ← hv, ← hvt]
  rw [hsame, reloadHorizontal_incVertical]

theorem renderLine_cnt (cfg : Config) (p : Ppu) (y : Nat) :
    (renderLine cfg p y).cnt = reloadHorizontal p.reg (incVertical p.cnt) := by
  obtain ⟨hfv, hv, hvt⟩ := advanceTiles_vertical 33 p.cnt
  exact reloadHorizontal_incVertical_of_vertical p.reg hfv hv hvt

/-! ## The line -/

theorem blankLine_eq (cfg : Config) (p : Ppu) (y : Nat) :
    blankLine cfg p y =
      { p with
        frame := insertKey y (List.replicate 256 (BitVec.ofNat 6
          ((ppuRead cfg p 0x3F00).toNat &&& (if p.mask.getLsbD 0 then 0x30 else 0x3F)))) p.frame } :=
  congrArg (fun c => { p with frame := insertKey y (List.replicate 256 c) p.frame }) (pixelAt_eq cfg p 0x3F00)

theorem renderScanline_blank (cfg : Config) {l : Nat} {p : Ppu} (h : 21 ≤ l) (h' : l ≤ 260)
    (hoff : renderingEnabled p = false) : renderScanline cfg l p = .done (blankLine cfg p (l - 21)) false := by
  rw [renderScanline, if_neg (by omega), if_neg (by omega), if_neg (by omega), if_pos ⟨h, h'⟩,
    if_neg (Bool.eq_false_iff.mp hoff)]

theorem renderScanline_shown (cfg : Config) {l : Nat} {p : Ppu} (h : 21 ≤ l) (h' : l ≤ 260)
    (hon : renderingEnabled p = true) (hsmall : p.ctrl.getLsbD 5 = false) :
    renderScanline cfg l p = .done (renderLine cfg p (l - 21)) false := by
  rw [renderScanline, if_neg (by omega), if_neg (by omega), if_neg (by omega), if_pos ⟨h, h'⟩, if_pos hon]
  exact if_neg (Bool.eq_false_iff.mp hsmall)

theorem renderRow_getElem? {cfg : Config} {p : Ppu} {x y : Nat} {bg : BgPixel}
    (h : (backgroundLine cfg p)[x]? = some bg) :
    (renderRow cfg p y)[x]? = some (composePixel cfg p (selectedSprites p y) bg x y) := by
  rw [renderRow, List.getElem?_mapIdx, h]
  rfl

/-- Settles O47: a blank line, a fatal one and a rendered one, whose row is `renderRow` over `backgroundLine_eq`. -/
theorem visibleLines : Obligations.VisibleLines := by
  intro cfg l p hfirst hlast
  refine ⟨fun hbg hspr => ?_, fun hon => ⟨fun hlarge => ?_, fun hsmall => ?_⟩⟩
  · have hoff : renderingEnabled p = false := by rw [renderingEnabled, bitOf, bitOf, hbg, hspr]; rfl
    exact (renderScanline_blank cfg hfirst hlast hoff).trans (congrArg (LineOutcome.done · false) (blankLine_eq ..))
  · exact renderScanline_fatal.mpr ⟨hfirst, hlast, (renderingEnabled_iff p).mpr hon, hlarge⟩
  · refine ⟨renderLine cfg p (l - 21), renderRow cfg p (l - 21),
      renderScanline_shown cfg hfirst hlast ((renderingEnabled_iff p).mpr hon) hsmall, lookupKey_insertKey_same ..,
      renderRow_length .., fun x bg => renderRow_getElem?, fun x => backgroundLine_eq cfg p,
      fun y hy => lookupKey_insertKey_other hy .., fun h => Bool.or_eq_true_iff.mpr (.inl h),
      fun h => Bool.or_eq_true_iff.mpr (.inl h), (congrArg Scroll.h (renderLine_cnt cfg p _) :),
      (congrArg Scroll.ht (renderLine_cnt cfg p _) :), fun hne => ?_, fun heq => ?_, rfl⟩
    · rw [renderLine_cnt, incVertical_of_ne hne]
      exact ⟨rfl, rfl, rfl⟩
    · rw [renderLine_cnt, incVertical_of_eq heq]
      refine ⟨?_, fun h29 => ?_, fun h29 => ?_⟩
      · split_ifs <;> rfl
      · rw [if_pos h29]
        exact ⟨rfl, rfl⟩
      · rw [if_neg h29]
        exact ⟨rfl, rfl⟩

end Sys2Proof.Machine
end
